-- ==== Sys2Proof/Word.lean ====
section
/-! DEFINITION. The word types of the block (R9, R10, R11, R53): frames, captures, data values, and the
binary32 operand held as its 32 bits. -/

namespace Sys2Proof

/-- One byte: a `u8` of R10, and the unit of a host request. -/
abbrev Byte := BitVec 8

/-- A 16-bit data value (R85); its high byte is bits 15:8 and its low byte bits 7:0 (R9). -/
abbrev DataValue := BitVec 16

/-- A 32-bit frame word (R80), bit 31 the most significant. -/
abbrev Frame := BitVec 32

/-- A capture of 68 samples as the port word of R53: sample `s[i]` is bit `67 - i`. -/
abbrev Capture := BitVec 68

/-- An `f32` (R165): the 32 bits of an IEEE 754 binary32 number. -/
abbrev F32 := BitVec 32

/-- A `u32` of milliseconds: the time base and the timeout (R25, R352). -/
abbrev Millis := BitVec 32

end Sys2Proof
end

