-- ==== Sys2Proof/Syntax.lean ====
section
/-! DEFINITION. The commands of the block and the values they carry: the record kinds (R90 to R99), the errors
(R340), the results a reply can hold (R20, R100), and `Instr`, one constructor per row of
spec/opcode_table.json: the 74 commands of R100 and the 8 frame message types of R82. Operand widths are fixed
by the types (R21: an operand of another width cannot be presented). -/

namespace Sys2Proof

/-- The eight message types of R82, in the order of their codes. -/
inductive MsgType where
  | readData | writeData | invalidData | reserved | readAck | writeAck | dataInvalid | unknownDataId
deriving DecidableEq, Repr

/-- The five fields of a frame (R80, R122). -/
structure FrameFields where
  parity : Bool
  msgType : BitVec 3
  spare : BitVec 4
  dataId : Byte
  dataValue : DataValue
deriving DecidableEq, Repr

/-- The record Status (R93, R192): five master flags, then seven slave flags. -/
structure Status where
  chEnable : Bool
  dhwEnable : Bool
  coolingEnable : Bool
  otcActive : Bool
  ch2Enable : Bool
  fault : Bool
  chMode : Bool
  dhwMode : Bool
  flame : Bool
  cooling : Bool
  ch2Mode : Bool
  diagnostic : Bool
deriving DecidableEq, Repr

/-- The record Config (R94, R194): six one-bit flags. -/
structure ConfigFlags where
  dhwPresent : Bool
  controlType : Bool
  coolingConfig : Bool
  dhwConfig : Bool
  masterPumpControl : Bool
  ch2Present : Bool
deriving DecidableEq, Repr

/-- The record Fault (R96, R197): the OEM fault code and six flags. -/
structure FaultFlags where
  oemFaultCode : Byte
  serviceRequest : Bool
  lockoutReset : Bool
  lowWaterPressure : Bool
  gasFlameFault : Bool
  airPressureFault : Bool
  waterOvertemp : Bool
deriving DecidableEq, Repr

/-- The record RemoteParams (R97, R199): two raw bytes, no bit of which has a meaning. -/
structure RemoteParams where
  transferEnable : Byte
  readWrite : Byte
deriving DecidableEq, Repr

/-- The record Time (R98, R200): day of week 0 = unknown, 1 = Monday to 7 = Sunday. -/
structure TimeOfDay where
  dayOfWeek : BitVec 3
  hour : BitVec 5
  minute : BitVec 6
deriving DecidableEq, Repr

/-- The record Date (R99, R202). -/
structure CalendarDate where
  month : Byte
  day : Byte
deriving DecidableEq, Repr

/-- The decoders of the registry's column "decoder" (R95). -/
inductive Decoder where
  | status | masterConfig | slaveConfig | fault | remoteParams | time | date | u8u8 | u16 | s16 | f88
deriving DecidableEq, Repr

/-- A value of the type a typed read produces (R29, R260): what the register `OUT` holds, tagged. -/
inductive OutValue where
  | status (r : Status)
  | config (r : ConfigFlags)
  | fault (r : FaultFlags)
  | remoteParams (r : RemoteParams)
  | time (r : TimeOfDay)
  | date (r : CalendarDate)
  | bytes (hb lb : Byte)
  | u16 (v : DataValue)
  | s16 (i : Int)
  | f32 (x : F32)
deriving DecidableEq, Repr, Inhabited

/-- The result of a command on `Ok` (R100, column "result on Ok"); `none` where it has none. -/
inductive Value where
  | none
  | frame (f : Frame)
  | fields (r : FrameFields)
  | bit (b : Bool)
  | capture (c : Capture)
  | typed (o : OutValue)
deriving DecidableEq, Repr

/-- The five errors of R340. -/
inductive Err where
  | timedOut | invalidFraming | invalidEncoding | parityError | busy
deriving DecidableEq, Repr

/-- The outcome a reply carries (R20): `Ok` with the result, or one of the errors. -/
inductive Answer where
  | ok (v : Value)
  | err (e : Err)
deriving DecidableEq, Repr

/-- The rows of spec/opcode_table.json. The commands carry the operands of R100. A `frame…` constructor is a frame
of that message type on the wire (R80, R82), with its other four fields. -/
inductive Instr where
  | pack (msgType : BitVec 3) (dataId : Byte) (dataValue : DataValue)  -- PACK, R121
  | unpack (frame : Frame)  -- UNPACK, R122
  | vpar (frame : Frame)  -- VPAR, R123
  | bldrd (dataId : Byte)  -- BLDRD, R124
  | bldwr (dataId : Byte) (value : DataValue)  -- BLDWR, R125
  | mdec (capture : Capture)  -- MDEC, R141
  | menc (frame : Frame)  -- MENC, R146
  | f88tof (v : DataValue)  -- F88TOF, R163
  | f88fromf (x : F32)  -- F88FROMF, R164
  | getu16 (frame : Frame)  -- GETU16, R170
  | gets16 (frame : Frame)  -- GETS16, R171
  | getf88 (frame : Frame)  -- GETF88, R172
  | decu8u8 (v : DataValue)  -- DECU8U8, R190
  | encu8u8 (hb : Byte) (lb : Byte)  -- ENCU8U8, R191
  | decstatus (v : DataValue)  -- DECSTATUS, R192
  | encstatus (r : Status)  -- ENCSTATUS, R193
  | decmcfg (v : DataValue)  -- DECMCFG, R194
  | decscfg (v : DataValue)  -- DECSCFG, R195
  | enccfg (r : ConfigFlags)  -- ENCCFG, R196
  | decfault (v : DataValue)  -- DECFAULT, R197
  | encfault (r : FaultFlags)  -- ENCFAULT, R198
  | decrp (v : DataValue)  -- DECRP, R199
  | dectime (v : DataValue)  -- DECTIME, R200
  | enctime (r : TimeOfDay)  -- ENCTIME, R201
  | decdate (v : DataValue)  -- DECDATE, R202
  | encdate (r : CalendarDate)  -- ENCDATE, R203
  | xact (request : Frame) (timeout : Millis)  -- XACT, R230
  | settmo (ms : Millis)  -- SETTMO, R245
  | wrControlSetpoint (t : F32)  -- WR_CONTROL_SETPOINT, R321
  | wrRoomSetpoint (t : F32)  -- WR_ROOM_SETPOINT, R322
  | wrDhwSetpoint (t : F32)  -- WR_DHW_SETPOINT, R323
  | wrMaxChSetpoint (t : F32)  -- WR_MAX_CH_SETPOINT, R324
  | wrChDhwEnable (ch : Bool) (dhw : Bool)  -- WR_CH_DHW_ENABLE, R325
  | wrDaytime (r : TimeOfDay)  -- WR_DAYTIME, R326
  | wrDate (r : CalendarDate)  -- WR_DATE, R327
  | wrYear (y : DataValue)  -- WR_YEAR, R328
  | rdStatus  -- RD_STATUS, R261
  | rdControlSetpoint  -- RD_CONTROL_SETPOINT, R262
  | rdMasterConfig  -- RD_MASTER_CONFIG, R263
  | rdSlaveConfig  -- RD_SLAVE_CONFIG, R264
  | rdFault  -- RD_FAULT, R265
  | rdRemoteParams  -- RD_REMOTE_PARAMS, R266
  | rdMaxRelMod  -- RD_MAX_REL_MOD, R267
  | rdMaxCapacity  -- RD_MAX_CAPACITY, R268
  | rdRoomSetpoint  -- RD_ROOM_SETPOINT, R269
  | rdRelMod  -- RD_REL_MOD, R270
  | rdChPressure  -- RD_CH_PRESSURE, R271
  | rdDhwFlow  -- RD_DHW_FLOW, R272
  | rdDaytime  -- RD_DAYTIME, R273
  | rdDate  -- RD_DATE, R274
  | rdYear  -- RD_YEAR, R275
  | rdRoomTemp  -- RD_ROOM_TEMP, R276
  | rdBoilerTemp  -- RD_BOILER_TEMP, R277
  | rdDhwTemp  -- RD_DHW_TEMP, R278
  | rdOutsideTemp  -- RD_OUTSIDE_TEMP, R279
  | rdReturnTemp  -- RD_RETURN_TEMP, R280
  | rdExhaustTemp  -- RD_EXHAUST_TEMP, R281
  | rdDhwBounds  -- RD_DHW_BOUNDS, R282
  | rdChBounds  -- RD_CH_BOUNDS, R283
  | rdDhwSetpoint  -- RD_DHW_SETPOINT, R284
  | rdMaxChSetpoint  -- RD_MAX_CH_SETPOINT, R285
  | rdOemDiag  -- RD_OEM_DIAG, R286
  | rdCounter116  -- RD_COUNTER_116, R287
  | rdCounter117  -- RD_COUNTER_117, R288
  | rdCounter118  -- RD_COUNTER_118, R289
  | rdCounter119  -- RD_COUNTER_119, R290
  | rdCounter120  -- RD_COUNTER_120, R291
  | rdCounter121  -- RD_COUNTER_121, R292
  | rdCounter122  -- RD_COUNTER_122, R293
  | rdCounter123  -- RD_COUNTER_123, R294
  | rdOtVersion  -- RD_OT_VERSION, R295
  | rdVersion125  -- RD_VERSION_125, R296
  | rdVersion126  -- RD_VERSION_126, R297
  | rdVersion127  -- RD_VERSION_127, R298
  | frameReadData (parity : Bool) (spare : BitVec 4) (dataId : Byte) (dataValue : DataValue)  -- FRAME.READ-DATA, R82
  | frameWriteData (parity : Bool) (spare : BitVec 4) (dataId : Byte) (dataValue : DataValue)  -- FRAME.WRITE-DATA, R82
  | frameInvalidData (parity : Bool) (spare : BitVec 4) (dataId : Byte) (dataValue : DataValue)  -- FRAME.INVALID-DATA, R82
  | frameReserved (parity : Bool) (spare : BitVec 4) (dataId : Byte) (dataValue : DataValue)  -- FRAME.RESERVED, R82
  | frameReadAck (parity : Bool) (spare : BitVec 4) (dataId : Byte) (dataValue : DataValue)  -- FRAME.READ-ACK, R82
  | frameWriteAck (parity : Bool) (spare : BitVec 4) (dataId : Byte) (dataValue : DataValue)  -- FRAME.WRITE-ACK, R82
  | frameDataInvalid (parity : Bool) (spare : BitVec 4) (dataId : Byte) (dataValue : DataValue)  -- FRAME.DATA-INVALID, R82
  | frameUnknownDataid (parity : Bool) (spare : BitVec 4) (dataId : Byte) (dataValue : DataValue)  -- FRAME.UNKNOWN-DATAID, R82
deriving DecidableEq, Repr

end Sys2Proof
end

