-- ==== Sys2Proof/Config.lean ====
section
/-! DEFINITION. The implementation parameters of R8 and the free values: what the spec fixes for this block is a
plain definition, what it leaves open is an opaque constant without a body, of which nothing can be proved. -/

namespace Sys2Proof.Config

/-- The two values of the parameter `CONFIG_FLAGS_BYTE` (R8, R94, R194). -/
inductive FlagsByte where
  | high | low
deriving DecidableEq, Repr

/-- The two values of the parameter `FAULT_LAYOUT` (R8, U9). -/
inductive FaultLayout where
  | document | opentherm
deriving DecidableEq, Repr

/-- `CONFIG_FLAGS_BYTE = high` (R8, decision D14; log 15). -/
def configFlagsByte : FlagsByte := .high

/-- `FAULT_LAYOUT = document` (R8, U9; log 15). -/
def faultLayout : FaultLayout := .document

/-- `DEFAULT_TIMEOUT_MS = 1000` (R8, R25). -/
def defaultTimeoutMs : Millis := 1000#32

/-- Free: by how much `POLL_INTERVAL_MS` exceeds its least value 1 (R8 OPEN; log 7). -/
opaque pollIntervalAboveOne : Nat

/-- `POLL_INTERVAL_MS`, "an integer number of milliseconds, at least 1", otherwise unknown (R8, D8; log 7). -/
def pollIntervalMs : Nat := pollIntervalAboveOne + 1

/-- Free: the `n`-th answer of `RxPoll()` that no scripted input gives (R54, U5; log 5). -/
opaque rxAnswer : Nat → Option Capture

/-- Free: the milliseconds that pass before the `n`-th reading of the time base that `State.delays` does not give
(R352; log 6). -/
opaque delay : Nat → Nat

/-- Free: the `n`-th unspecified result of `F88FROMF`, on the operand `x` (R168, U2; log 8). -/
opaque f88Unspecified : Nat → F32 → DataValue

/-- Free: the `n`-th value that a host's read of `OUT` finds before the first successful `RD_*` command (R33, U11's
"any value"; log 10). -/
opaque earlyOut : Nat → OutValue

end Sys2Proof.Config
end

