-- ==== Sys2Proof/WellFormed.lean ====
section
/-! DEFINITION. Well-formedness. Every value of `Instr` is well formed: R21 and U12 say that an operand of another
width and a capture of another length cannot be presented, and the types have exactly the widths of R100 (no
command range-checks a value: R206, R346). What can be ill formed is a PACKET, the raw material of the host
port: `requestWellFormed` says which byte strings are requests. The byte layout is log 2 (DESIGN CHOICE): the
selector byte of R100, then each operand field in the order of R100 (the fields of a record in the order of its
rule), each in the least number of whole bytes, most significant byte first, unused high bits 0. -/

namespace Sys2Proof

/-- What the outside world hands to the decoder: a request on the host port (R20), or a frame word on the wire
(R80). -/
inductive Packet where
  | request (bytes : List Byte)
  | wire (frame : Frame)
deriving DecidableEq, Repr

/-- The operand field widths of R100 by selector (R101); `none` for an unassigned selector. -/
def operandWidths (op : Byte) : Option (List Nat) :=
  match op.toNat with
  | 0x01 => some [3, 8, 16]  -- PACK
  | 0x02 => some [32]  -- UNPACK
  | 0x03 => some [32]  -- VPAR
  | 0x04 => some [8]  -- BLDRD
  | 0x05 => some [8, 16]  -- BLDWR
  | 0x10 => some [68]  -- MDEC
  | 0x11 => some [32]  -- MENC
  | 0x20 => some [16]  -- F88TOF
  | 0x21 => some [32]  -- F88FROMF
  | 0x22 => some [32]  -- GETU16
  | 0x23 => some [32]  -- GETS16
  | 0x24 => some [32]  -- GETF88
  | 0x30 => some [16]  -- DECU8U8
  | 0x31 => some [8, 8]  -- ENCU8U8
  | 0x32 => some [16]  -- DECSTATUS
  | 0x33 => some [1, 1, 1, 1, 1, 1, 1, 1, 1, 1, 1, 1]  -- ENCSTATUS
  | 0x34 => some [16]  -- DECMCFG
  | 0x35 => some [16]  -- DECSCFG
  | 0x36 => some [1, 1, 1, 1, 1, 1]  -- ENCCFG
  | 0x37 => some [16]  -- DECFAULT
  | 0x38 => some [8, 1, 1, 1, 1, 1, 1]  -- ENCFAULT
  | 0x39 => some [16]  -- DECRP
  | 0x3A => some [16]  -- DECTIME
  | 0x3B => some [3, 5, 6]  -- ENCTIME
  | 0x3C => some [16]  -- DECDATE
  | 0x3D => some [8, 8]  -- ENCDATE
  | 0x40 => some [32, 32]  -- XACT
  | 0x41 => some [32]  -- SETTMO
  | 0x50 => some [32]  -- WR_CONTROL_SETPOINT
  | 0x51 => some [32]  -- WR_ROOM_SETPOINT
  | 0x52 => some [32]  -- WR_DHW_SETPOINT
  | 0x53 => some [32]  -- WR_MAX_CH_SETPOINT
  | 0x54 => some [1, 1]  -- WR_CH_DHW_ENABLE
  | 0x55 => some [3, 5, 6]  -- WR_DAYTIME
  | 0x56 => some [8, 8]  -- WR_DATE
  | 0x57 => some [16]  -- WR_YEAR
  | 0x80 => some []  -- RD_STATUS
  | 0x81 => some []  -- RD_CONTROL_SETPOINT
  | 0x82 => some []  -- RD_MASTER_CONFIG
  | 0x83 => some []  -- RD_SLAVE_CONFIG
  | 0x85 => some []  -- RD_FAULT
  | 0x86 => some []  -- RD_REMOTE_PARAMS
  | 0x8E => some []  -- RD_MAX_REL_MOD
  | 0x8F => some []  -- RD_MAX_CAPACITY
  | 0x90 => some []  -- RD_ROOM_SETPOINT
  | 0x91 => some []  -- RD_REL_MOD
  | 0x92 => some []  -- RD_CH_PRESSURE
  | 0x93 => some []  -- RD_DHW_FLOW
  | 0x94 => some []  -- RD_DAYTIME
  | 0x95 => some []  -- RD_DATE
  | 0x96 => some []  -- RD_YEAR
  | 0x98 => some []  -- RD_ROOM_TEMP
  | 0x99 => some []  -- RD_BOILER_TEMP
  | 0x9A => some []  -- RD_DHW_TEMP
  | 0x9B => some []  -- RD_OUTSIDE_TEMP
  | 0x9C => some []  -- RD_RETURN_TEMP
  | 0xA1 => some []  -- RD_EXHAUST_TEMP
  | 0xB0 => some []  -- RD_DHW_BOUNDS
  | 0xB1 => some []  -- RD_CH_BOUNDS
  | 0xB8 => some []  -- RD_DHW_SETPOINT
  | 0xB9 => some []  -- RD_MAX_CH_SETPOINT
  | 0xF3 => some []  -- RD_OEM_DIAG
  | 0xF4 => some []  -- RD_COUNTER_116
  | 0xF5 => some []  -- RD_COUNTER_117
  | 0xF6 => some []  -- RD_COUNTER_118
  | 0xF7 => some []  -- RD_COUNTER_119
  | 0xF8 => some []  -- RD_COUNTER_120
  | 0xF9 => some []  -- RD_COUNTER_121
  | 0xFA => some []  -- RD_COUNTER_122
  | 0xFB => some []  -- RD_COUNTER_123
  | 0xFC => some []  -- RD_OT_VERSION
  | 0xFD => some []  -- RD_VERSION_125
  | 0xFE => some []  -- RD_VERSION_126
  | 0xFF => some []  -- RD_VERSION_127
  | _ => none

/-- The number of bytes that carry a field of `w` bits. -/
def fieldBytes (w : Nat) : Nat := (w + 7) / 8

/-- The bytes are exactly the fields of these widths: long enough, unused high bits 0, nothing left over. -/
def fieldsFit : List Nat → List Byte → Bool
  | [], bs => bs.isEmpty
  | w :: ws, bs =>
    decide (fieldBytes w ≤ bs.length) && (w % 8 == 0 || decide ((bs.headD 0#8).toNat < 2 ^ (w % 8)))
      && fieldsFit ws (bs.drop (fieldBytes w))

/-- The byte string is a request of the host port: an assigned selector and fields that fit (R21, R61, R101). -/
def requestWellFormed : List Byte → Bool
  | [] => false
  | op :: bs => match operandWidths op with
    | none => false
    | some ws => fieldsFit ws bs

/-- Every 32-bit word is a frame (R80), so only a request can be ill formed. -/
def Packet.wellFormed : Packet → Bool
  | .request bs => requestWellFormed bs
  | .wire _ => true

end Sys2Proof
end

