-- ==== Sys2Proof/Decode.lean ====
section
/-! DEFINITION. The decoder, total on every packet and rejecting by name, and after it the encoder. A host request is
the selector byte of R101 and the operand fields of R100 (byte layout: log 2); a wire packet is a frame word of
R80, whose row is chosen by its message type (R82). -/

namespace Sys2Proof

/-- Why a byte string is no request (R21, R61, R101, U12). -/
inductive DecodeError where
  /-- No byte at all. -/
  | emptyRequest
  /-- The selector is not one of R100. -/
  | unassignedSelector (op : Byte)
  /-- The operand bytes end too early. -/
  | truncated
  /-- An operand is wider than its field. -/
  | operandTooWide
  /-- Bytes follow the last operand. -/
  | trailingBytes
deriving DecidableEq, Repr

/-! ### The fields of a frame word (R80) -/

/-- Bit 31. -/
def frameParity (f : Frame) : Bool := f.getLsbD 31
/-- Bits 30:28. -/
def frameMsgType (f : Frame) : BitVec 3 := f.extractLsb' 28 3
/-- Bits 27:24. -/
def frameSpare (f : Frame) : BitVec 4 := f.extractLsb' 24 4
/-- Bits 23:16. -/
def frameDataId (f : Frame) : Byte := f.extractLsb' 16 8
/-- Bits 15:0. -/
def frameDataValue (f : Frame) : DataValue := f.extractLsb' 0 16

/-- The frame word of R80 with these five fields. -/
def frameWord (parity : Bool) (msgType : BitVec 3) (spare : BitVec 4) (dataId : Byte) (dataValue : DataValue) : Frame :=
  BitVec.ofBool parity ++ msgType ++ spare ++ dataId ++ dataValue

/-- The code of a message type in bits 30:28 (R82). -/
def MsgType.code : MsgType → BitVec 3
  | .readData => 0#3
  | .writeData => 1#3
  | .invalidData => 2#3
  | .reserved => 3#3
  | .readAck => 4#3
  | .writeAck => 5#3
  | .dataInvalid => 6#3
  | .unknownDataId => 7#3

/-! ### The bytes of a host request (log 2) -/

/-- Read `n` bytes, most significant first, onto `acc`; `none` where they end too early. -/
def readBytes : Nat → Nat → List Byte → Option (Nat × List Byte)
  | 0, acc, bs => some (acc, bs)
  | _ + 1, _, [] => none
  | n + 1, acc, b :: bs => readBytes n (acc * 256 + b.toNat) bs

/-- The `n` low bytes of `v`, most significant first. -/
def putBytes : Nat → Nat → List Byte
  | 0, _ => []
  | n + 1, v => BitVec.ofNat 8 (v / 256 ^ n) :: putBytes n v

/-- Read one field of `w` bits and go on with it. -/
def withField (w : Nat) (bs : List Byte) (k : BitVec w → List Byte → Except DecodeError Instr) :
    Except DecodeError Instr :=
  match readBytes (fieldBytes w) 0 bs with
  | none => .error .truncated
  | some (n, rest) => if n < 2 ^ w then k (BitVec.ofNat w n) rest else .error .operandTooWide

/-- The bytes of one field. -/
def putField {w : Nat} (v : BitVec w) : List Byte := putBytes (fieldBytes w) v.toNat

/-- Read a flag: a field of one bit. -/
def withFlag (bs : List Byte) (k : Bool → List Byte → Except DecodeError Instr) : Except DecodeError Instr :=
  withField 1 bs fun b bs => k (b == 1#1) bs

/-- The byte of a flag. -/
def putFlag (b : Bool) : List Byte := putField (BitVec.ofBool b)

/-- Read a Status record: its twelve flags in the order of R192. -/
def withStatus (bs : List Byte) (k : Status → List Byte → Except DecodeError Instr) : Except DecodeError Instr :=
  withFlag bs fun ch bs => withFlag bs fun dhw bs => withFlag bs fun ce bs => withFlag bs fun otc bs =>
  withFlag bs fun ch2 bs => withFlag bs fun fa bs => withFlag bs fun chm bs => withFlag bs fun dhwm bs =>
  withFlag bs fun fl bs => withFlag bs fun co bs => withFlag bs fun ch2m bs => withFlag bs fun di bs =>
  k ⟨ch, dhw, ce, otc, ch2, fa, chm, dhwm, fl, co, ch2m, di⟩ bs

/-- The bytes of a Status record. -/
def putStatus (r : Status) : List Byte :=
  putFlag r.chEnable ++ (putFlag r.dhwEnable ++ (putFlag r.coolingEnable ++ (putFlag r.otcActive ++
  (putFlag r.ch2Enable ++ (putFlag r.fault ++ (putFlag r.chMode ++ (putFlag r.dhwMode ++ (putFlag r.flame ++
  (putFlag r.cooling ++ (putFlag r.ch2Mode ++ putFlag r.diagnostic))))))))))

/-- Read a Config record: its six flags in the order of R194. -/
def withConfigFlags (bs : List Byte) (k : ConfigFlags → List Byte → Except DecodeError Instr) :
    Except DecodeError Instr :=
  withFlag bs fun dp bs => withFlag bs fun ct bs => withFlag bs fun cc bs => withFlag bs fun dc bs =>
  withFlag bs fun mp bs => withFlag bs fun c2 bs => k ⟨dp, ct, cc, dc, mp, c2⟩ bs

/-- The bytes of a Config record. -/
def putConfigFlags (r : ConfigFlags) : List Byte :=
  putFlag r.dhwPresent ++ (putFlag r.controlType ++ (putFlag r.coolingConfig ++ (putFlag r.dhwConfig ++
  (putFlag r.masterPumpControl ++ putFlag r.ch2Present))))

/-- Read a Fault record: the OEM code, then the six flags in the order of R197. -/
def withFaultFlags (bs : List Byte) (k : FaultFlags → List Byte → Except DecodeError Instr) :
    Except DecodeError Instr :=
  withField 8 bs fun code bs => withFlag bs fun sr bs => withFlag bs fun lr bs => withFlag bs fun lw bs =>
  withFlag bs fun gf bs => withFlag bs fun ap bs => withFlag bs fun wo bs => k ⟨code, sr, lr, lw, gf, ap, wo⟩ bs

/-- The bytes of a Fault record. -/
def putFaultFlags (r : FaultFlags) : List Byte :=
  putField r.oemFaultCode ++ (putFlag r.serviceRequest ++ (putFlag r.lockoutReset ++ (putFlag r.lowWaterPressure ++
  (putFlag r.gasFlameFault ++ (putFlag r.airPressureFault ++ putFlag r.waterOvertemp)))))

/-- Read a Time record: day of week, hour, minute (R200). -/
def withTimeOfDay (bs : List Byte) (k : TimeOfDay → List Byte → Except DecodeError Instr) :
    Except DecodeError Instr :=
  withField 3 bs fun dow bs => withField 5 bs fun h bs => withField 6 bs fun m bs => k ⟨dow, h, m⟩ bs

/-- The bytes of a Time record. -/
def putTimeOfDay (r : TimeOfDay) : List Byte := putField r.dayOfWeek ++ (putField r.hour ++ putField r.minute)

/-- Read a Date record: month, day (R202). -/
def withCalendarDate (bs : List Byte) (k : CalendarDate → List Byte → Except DecodeError Instr) :
    Except DecodeError Instr :=
  withField 8 bs fun m bs => withField 8 bs fun d bs => k ⟨m, d⟩ bs

/-- The bytes of a Date record. -/
def putCalendarDate (r : CalendarDate) : List Byte := putField r.month ++ putField r.day

/-- The request ends here. -/
def endOf (i : Instr) : List Byte → Except DecodeError Instr
  | [] => .ok i
  | _ :: _ => .error .trailingBytes

/-! ### The decoder -/

/-- The command of a host request (R100, R101). -/
def decodeRequest : List Byte → Except DecodeError Instr
  | [] => .error .emptyRequest
  | op :: bs =>
    match op.toNat with
    | 0x01 => withField 3 bs fun m bs => withField 8 bs fun d bs => withField 16 bs fun v bs => endOf (.pack m d v) bs
    | 0x02 => withField 32 bs fun f bs => endOf (.unpack f) bs
    | 0x03 => withField 32 bs fun f bs => endOf (.vpar f) bs
    | 0x04 => withField 8 bs fun d bs => endOf (.bldrd d) bs
    | 0x05 => withField 8 bs fun d bs => withField 16 bs fun v bs => endOf (.bldwr d v) bs
    | 0x10 => withField 68 bs fun c bs => endOf (.mdec c) bs
    | 0x11 => withField 32 bs fun f bs => endOf (.menc f) bs
    | 0x20 => withField 16 bs fun v bs => endOf (.f88tof v) bs
    | 0x21 => withField 32 bs fun x bs => endOf (.f88fromf x) bs
    | 0x22 => withField 32 bs fun f bs => endOf (.getu16 f) bs
    | 0x23 => withField 32 bs fun f bs => endOf (.gets16 f) bs
    | 0x24 => withField 32 bs fun f bs => endOf (.getf88 f) bs
    | 0x30 => withField 16 bs fun v bs => endOf (.decu8u8 v) bs
    | 0x31 => withField 8 bs fun hb bs => withField 8 bs fun lb bs => endOf (.encu8u8 hb lb) bs
    | 0x32 => withField 16 bs fun v bs => endOf (.decstatus v) bs
    | 0x33 => withStatus bs fun r bs => endOf (.encstatus r) bs
    | 0x34 => withField 16 bs fun v bs => endOf (.decmcfg v) bs
    | 0x35 => withField 16 bs fun v bs => endOf (.decscfg v) bs
    | 0x36 => withConfigFlags bs fun r bs => endOf (.enccfg r) bs
    | 0x37 => withField 16 bs fun v bs => endOf (.decfault v) bs
    | 0x38 => withFaultFlags bs fun r bs => endOf (.encfault r) bs
    | 0x39 => withField 16 bs fun v bs => endOf (.decrp v) bs
    | 0x3A => withField 16 bs fun v bs => endOf (.dectime v) bs
    | 0x3B => withTimeOfDay bs fun r bs => endOf (.enctime r) bs
    | 0x3C => withField 16 bs fun v bs => endOf (.decdate v) bs
    | 0x3D => withCalendarDate bs fun r bs => endOf (.encdate r) bs
    | 0x40 => withField 32 bs fun r bs => withField 32 bs fun t bs => endOf (.xact r t) bs
    | 0x41 => withField 32 bs fun ms bs => endOf (.settmo ms) bs
    | 0x50 => withField 32 bs fun t bs => endOf (.wrControlSetpoint t) bs
    | 0x51 => withField 32 bs fun t bs => endOf (.wrRoomSetpoint t) bs
    | 0x52 => withField 32 bs fun t bs => endOf (.wrDhwSetpoint t) bs
    | 0x53 => withField 32 bs fun t bs => endOf (.wrMaxChSetpoint t) bs
    | 0x54 => withFlag bs fun ch bs => withFlag bs fun dhw bs => endOf (.wrChDhwEnable ch dhw) bs
    | 0x55 => withTimeOfDay bs fun r bs => endOf (.wrDaytime r) bs
    | 0x56 => withCalendarDate bs fun r bs => endOf (.wrDate r) bs
    | 0x57 => withField 16 bs fun y bs => endOf (.wrYear y) bs
    | 0x80 => endOf .rdStatus bs
    | 0x81 => endOf .rdControlSetpoint bs
    | 0x82 => endOf .rdMasterConfig bs
    | 0x83 => endOf .rdSlaveConfig bs
    | 0x85 => endOf .rdFault bs
    | 0x86 => endOf .rdRemoteParams bs
    | 0x8E => endOf .rdMaxRelMod bs
    | 0x8F => endOf .rdMaxCapacity bs
    | 0x90 => endOf .rdRoomSetpoint bs
    | 0x91 => endOf .rdRelMod bs
    | 0x92 => endOf .rdChPressure bs
    | 0x93 => endOf .rdDhwFlow bs
    | 0x94 => endOf .rdDaytime bs
    | 0x95 => endOf .rdDate bs
    | 0x96 => endOf .rdYear bs
    | 0x98 => endOf .rdRoomTemp bs
    | 0x99 => endOf .rdBoilerTemp bs
    | 0x9A => endOf .rdDhwTemp bs
    | 0x9B => endOf .rdOutsideTemp bs
    | 0x9C => endOf .rdReturnTemp bs
    | 0xA1 => endOf .rdExhaustTemp bs
    | 0xB0 => endOf .rdDhwBounds bs
    | 0xB1 => endOf .rdChBounds bs
    | 0xB8 => endOf .rdDhwSetpoint bs
    | 0xB9 => endOf .rdMaxChSetpoint bs
    | 0xF3 => endOf .rdOemDiag bs
    | 0xF4 => endOf .rdCounter116 bs
    | 0xF5 => endOf .rdCounter117 bs
    | 0xF6 => endOf .rdCounter118 bs
    | 0xF7 => endOf .rdCounter119 bs
    | 0xF8 => endOf .rdCounter120 bs
    | 0xF9 => endOf .rdCounter121 bs
    | 0xFA => endOf .rdCounter122 bs
    | 0xFB => endOf .rdCounter123 bs
    | 0xFC => endOf .rdOtVersion bs
    | 0xFD => endOf .rdVersion125 bs
    | 0xFE => endOf .rdVersion126 bs
    | 0xFF => endOf .rdVersion127 bs
    | _ => .error (.unassignedSelector op)

/-- The row of a frame word: its message type (R82) chooses it, and every word has one (R80). -/
def decodeWire (f : Frame) : Instr :=
  match (frameMsgType f).toNat with
  | 0 => .frameReadData (frameParity f) (frameSpare f) (frameDataId f) (frameDataValue f)
  | 1 => .frameWriteData (frameParity f) (frameSpare f) (frameDataId f) (frameDataValue f)
  | 2 => .frameInvalidData (frameParity f) (frameSpare f) (frameDataId f) (frameDataValue f)
  | 3 => .frameReserved (frameParity f) (frameSpare f) (frameDataId f) (frameDataValue f)
  | 4 => .frameReadAck (frameParity f) (frameSpare f) (frameDataId f) (frameDataValue f)
  | 5 => .frameWriteAck (frameParity f) (frameSpare f) (frameDataId f) (frameDataValue f)
  | 6 => .frameDataInvalid (frameParity f) (frameSpare f) (frameDataId f) (frameDataValue f)
  | _ => .frameUnknownDataid (frameParity f) (frameSpare f) (frameDataId f) (frameDataValue f)

/-- The decoder. -/
def decode : Packet → Except DecodeError Instr
  | .request bs => decodeRequest bs
  | .wire f => .ok (decodeWire f)

/-! ### The encoder, from the same tables -/

/-- The packet of an instruction. -/
def encode : Instr → Packet
  | .pack m d v => .request (0x01#8 :: (putField m ++ (putField d ++ (putField v))))
  | .unpack f => .request (0x02#8 :: putField f)
  | .vpar f => .request (0x03#8 :: putField f)
  | .bldrd d => .request (0x04#8 :: putField d)
  | .bldwr d v => .request (0x05#8 :: (putField d ++ (putField v)))
  | .mdec c => .request (0x10#8 :: putField c)
  | .menc f => .request (0x11#8 :: putField f)
  | .f88tof v => .request (0x20#8 :: putField v)
  | .f88fromf x => .request (0x21#8 :: putField x)
  | .getu16 f => .request (0x22#8 :: putField f)
  | .gets16 f => .request (0x23#8 :: putField f)
  | .getf88 f => .request (0x24#8 :: putField f)
  | .decu8u8 v => .request (0x30#8 :: putField v)
  | .encu8u8 hb lb => .request (0x31#8 :: (putField hb ++ (putField lb)))
  | .decstatus v => .request (0x32#8 :: putField v)
  | .encstatus r => .request (0x33#8 :: putStatus r)
  | .decmcfg v => .request (0x34#8 :: putField v)
  | .decscfg v => .request (0x35#8 :: putField v)
  | .enccfg r => .request (0x36#8 :: putConfigFlags r)
  | .decfault v => .request (0x37#8 :: putField v)
  | .encfault r => .request (0x38#8 :: putFaultFlags r)
  | .decrp v => .request (0x39#8 :: putField v)
  | .dectime v => .request (0x3A#8 :: putField v)
  | .enctime r => .request (0x3B#8 :: putTimeOfDay r)
  | .decdate v => .request (0x3C#8 :: putField v)
  | .encdate r => .request (0x3D#8 :: putCalendarDate r)
  | .xact r t => .request (0x40#8 :: (putField r ++ (putField t)))
  | .settmo ms => .request (0x41#8 :: putField ms)
  | .wrControlSetpoint t => .request (0x50#8 :: putField t)
  | .wrRoomSetpoint t => .request (0x51#8 :: putField t)
  | .wrDhwSetpoint t => .request (0x52#8 :: putField t)
  | .wrMaxChSetpoint t => .request (0x53#8 :: putField t)
  | .wrChDhwEnable ch dhw => .request (0x54#8 :: (putFlag ch ++ (putFlag dhw)))
  | .wrDaytime r => .request (0x55#8 :: putTimeOfDay r)
  | .wrDate r => .request (0x56#8 :: putCalendarDate r)
  | .wrYear y => .request (0x57#8 :: putField y)
  | .rdStatus => .request (0x80#8 :: [])
  | .rdControlSetpoint => .request (0x81#8 :: [])
  | .rdMasterConfig => .request (0x82#8 :: [])
  | .rdSlaveConfig => .request (0x83#8 :: [])
  | .rdFault => .request (0x85#8 :: [])
  | .rdRemoteParams => .request (0x86#8 :: [])
  | .rdMaxRelMod => .request (0x8E#8 :: [])
  | .rdMaxCapacity => .request (0x8F#8 :: [])
  | .rdRoomSetpoint => .request (0x90#8 :: [])
  | .rdRelMod => .request (0x91#8 :: [])
  | .rdChPressure => .request (0x92#8 :: [])
  | .rdDhwFlow => .request (0x93#8 :: [])
  | .rdDaytime => .request (0x94#8 :: [])
  | .rdDate => .request (0x95#8 :: [])
  | .rdYear => .request (0x96#8 :: [])
  | .rdRoomTemp => .request (0x98#8 :: [])
  | .rdBoilerTemp => .request (0x99#8 :: [])
  | .rdDhwTemp => .request (0x9A#8 :: [])
  | .rdOutsideTemp => .request (0x9B#8 :: [])
  | .rdReturnTemp => .request (0x9C#8 :: [])
  | .rdExhaustTemp => .request (0xA1#8 :: [])
  | .rdDhwBounds => .request (0xB0#8 :: [])
  | .rdChBounds => .request (0xB1#8 :: [])
  | .rdDhwSetpoint => .request (0xB8#8 :: [])
  | .rdMaxChSetpoint => .request (0xB9#8 :: [])
  | .rdOemDiag => .request (0xF3#8 :: [])
  | .rdCounter116 => .request (0xF4#8 :: [])
  | .rdCounter117 => .request (0xF5#8 :: [])
  | .rdCounter118 => .request (0xF6#8 :: [])
  | .rdCounter119 => .request (0xF7#8 :: [])
  | .rdCounter120 => .request (0xF8#8 :: [])
  | .rdCounter121 => .request (0xF9#8 :: [])
  | .rdCounter122 => .request (0xFA#8 :: [])
  | .rdCounter123 => .request (0xFB#8 :: [])
  | .rdOtVersion => .request (0xFC#8 :: [])
  | .rdVersion125 => .request (0xFD#8 :: [])
  | .rdVersion126 => .request (0xFE#8 :: [])
  | .rdVersion127 => .request (0xFF#8 :: [])
  | .frameReadData p s d v => .wire (frameWord p 0#3 s d v)
  | .frameWriteData p s d v => .wire (frameWord p 1#3 s d v)
  | .frameInvalidData p s d v => .wire (frameWord p 2#3 s d v)
  | .frameReserved p s d v => .wire (frameWord p 3#3 s d v)
  | .frameReadAck p s d v => .wire (frameWord p 4#3 s d v)
  | .frameWriteAck p s d v => .wire (frameWord p 5#3 s d v)
  | .frameDataInvalid p s d v => .wire (frameWord p 6#3 s d v)
  | .frameUnknownDataid p s d v => .wire (frameWord p 7#3 s d v)

/-! ### The opcode table's numbering of an instruction's bits -/

/-- The first `n` bytes of the number `w`, bits 7:0 first. -/
def lowBytesFirst : Nat → Nat → List Byte
  | 0, _ => []
  | n + 1, w => BitVec.ofNat 8 w :: lowBytesFirst n (w / 256)

/-- The operand bytes of a request with this selector. -/
def operandBytes (op : Byte) : Nat :=
  match operandWidths op with
  | none => 0
  | some ws => (ws.map fieldBytes).sum

/-- The packet of a row's bits as spec/opcode_table.json numbers them: the 32-bit rows are frame words on the wire,
the 8-bit rows are selectors on the host port, whose operand bytes above `nbits` are zeros. -/
def packetOfTableWord (nbits w : Nat) : Packet :=
  if nbits = 32 then .wire (BitVec.ofNat 32 w)
  else
    let bytes := lowBytesFirst (nbits / 8) w
    .request (bytes ++ List.replicate (operandBytes (bytes.headD 0#8) + 1 - bytes.length) 0#8)

/-- The instruction the decoder reads from a row's bits. -/
def decodeTableWord (nbits w : Nat) : Option Instr :=
  (decode (packetOfTableWord nbits w)).toOption

end Sys2Proof
end

