-- ==== Sys2Proof/Machine/State.lean ====
section
/-! DEFINITION. The state of the block (10_state.md), the histories of its two ports, the environment it reads,
and why a step can stop. All of it is plain data. -/

namespace Sys2Proof.Machine

/-- Why the machine can stop with a fault. There is no reason: no error of the block is fatal and it has no halted or
locked state (R347), and a host that reads `OUT` too early errs itself (R33, U11) without stopping the block. Safe: no
claim can be proved from a fault that cannot happen. -/
inductive Fault
deriving DecidableEq, Repr

/-- Why a step can have no meaning. -/
inductive Refusal where
  /-- Raised by the fetch of a host request whose bytes are no request of the port (R21, R61, U12: "they cannot be
  presented"). Safe: the model stops. -/
  | notPresentable (e : DecodeError)
  /-- An instruction that has no meaning yet. Raised by no arm of `exec`. Safe. -/
  | notModelled (mnemonic : String)
deriving DecidableEq, Repr

/-- The register `FSM` (R22): one bit. -/
inductive Fsm where
  | idle
  | awaitingResponse
deriving DecidableEq, Repr

/-- How a transaction's command completes on `Ok(f)` (R351): `XACT` replies the frame, a typed read stores the
decoded value in `OUT`, a typed write drops the frame. -/
inductive Finish where
  | replyFrame
  | store (d : Decoder)
  | acknowledge
deriving DecidableEq, Repr

/-- The register `XCMD` (R28): the command that started the transaction, with its operands, "so that its completion
(decode into `OUT`, reply) can be performed" (log 20). -/
structure XCmd where
  cmd : Instr
  finish : Finish
deriving DecidableEq, Repr

/-- One reply on the host port (R20): the command it answers and the outcome. -/
structure Reply where
  cmd : Instr
  answer : Answer
deriving DecidableEq, Repr

/-- What a host's read of the output location found (R29, R33; log 10, log 13). -/
inductive OutRead where
  /-- The value of the last successful `RD_*` command (R29). -/
  | value (v : OutValue)
  /-- The read came before any successful `RD_*` command: a read of an unwritten register, the host's own fault (R33,
  U11, R384 item 3), whatever it found. -/
  | tooEarly (anyValue : OutValue)
deriving DecidableEq, Repr

/-- One move of the outside world (R17, R32, R243; log 4). -/
inductive Input where
  /-- The host presents a request. With `waits` it keeps the discipline of R21 and presents it only when no
  transaction is in flight (log 18). -/
  | request (waits : Bool) (bytes : List Byte)
  /-- The engine polls, and the transport hands it a capture of this frame (R243; log 1). -/
  | wire (frame : Frame)
  /-- The engine polls, and `RxPoll()` answers this (R54). -/
  | poll (answer : Option Capture)
  /-- The host reads the output location (R29, R33, R384 item 3). -/
  | readOut
  /-- The block is reset (R380, R382). -/
  | reset
deriving DecidableEq, Repr

/-- The whole machine. The first group are the registers of 10_state.md. `outWritten` is the spec's "unwritten" of
`OUT` (R33). The others are the model's own: the ports' histories (log 13) and the environment as plain data
(log 4, log 6, log 7, log 8). -/
structure State where
  /-- `FSM` (R22). -/
  fsm : Fsm
  /-- `TIMEOUT` (R25). -/
  timeout : Millis
  /-- `XREQ` (R28): the request frame that was transmitted. -/
  xreq : Frame
  /-- `XT0` (R28): the time base at transmission. -/
  xt0 : Millis
  /-- `XTMO` (R28): the timeout of this transaction. -/
  xtmo : Millis
  /-- `XCMD` (R28). -/
  xcmd : XCmd
  /-- `OUT` (R29): the typed output location. -/
  out : OutValue
  /-- Whether a successful `RD_*` command has written `OUT` since reset (R33). -/
  outWritten : Bool
  /-- The frames handed to the transport by `TxFrame` (R51), newest first. -/
  sent : List Frame
  /-- The replies given on the host port (R20), newest first. -/
  replies : List Reply
  /-- What the host's reads of `OUT` found (R29, R33), newest first. -/
  reads : List OutRead
  /-- The outside world's moves still to come, the next one first. -/
  inputs : List Input
  /-- The time base (R352) at its latest reading or at the end of the latest sleep, in true milliseconds since an
  arbitrary origin; `TimeNow()` is this number modulo 2^32. -/
  clock : Nat
  /-- The milliseconds that pass before each of the next readings of the time base; free when the list is empty. -/
  delays : List Nat
  /-- Index of the next free value. -/
  fresh : Nat
  /-- `POLL_INTERVAL_MS` of this instance (R8); no step writes it. -/
  pollMs : Nat
deriving DecidableEq, Repr

/-- The machine right after reset (R33, R380): `FSM = Idle`, `TIMEOUT = 1000`, nothing transmitted, nothing
replied. The spec gives the transaction registers and `OUT` no value: log 9, log 10. -/
def State.reset : State where
  fsm := .idle
  timeout := Config.defaultTimeoutMs
  xreq := 0#32
  xt0 := 0#32
  xtmo := 0#32
  xcmd := ⟨.xact 0#32 0#32, .replyFrame⟩
  out := .u16 0#16
  outWritten := false
  sent := []
  replies := []
  reads := []
  inputs := []
  clock := 0
  delays := []
  fresh := 0
  pollMs := Config.pollIntervalMs

end Sys2Proof.Machine
end

