-- ==== Sys2Proof/Machine/Flags.lean ====
section
/-! DEFINITION. The one-bit computations of the block: parity (R81, R123, R126) and the timeout comparison (R240);
the block has no condition codes (R24). With them the codes of `FSM` (R22) and of the outcomes (R340). -/

namespace Sys2Proof.Machine

/-- The number of set bits among the `k` lowest bits of `v`. -/
def popcountBelow {w : Nat} (v : BitVec w) : Nat → Nat
  | 0 => 0
  | k + 1 => popcountBelow v k + (v.getLsbD k).toNat

/-- `popcount(v)` (R10): the number of bits of `v` that are 1. -/
def popcount {w : Nat} (v : BitVec w) : Nat := popcountBelow v w

/-- The parity generator of R126: `popcount(x) mod 2`, the bit that makes the 32-bit word even. -/
def parity31 (body : BitVec 31) : Bool := popcount body % 2 == 1

/-- `verify_parity` (R123): the number of set bits of the word is even. -/
def evenParity (f : Frame) : Bool := popcount f % 2 == 0

/-- The comparison of R240: `(now - XT0) mod 2^32 > XTMO`, unsigned and strict. -/
def windowExpired (now xt0 xtmo : Millis) : Bool := xtmo.ult (now - xt0)

/-- The encoding of `FSM` (R22). -/
def Fsm.code : Fsm → BitVec 1
  | .idle => 0#1
  | .awaitingResponse => 1#1

/-- The numeric outcome code of R340; `Ok` is 0. -/
def errCode : Err → Nat
  | .timedOut => 1
  | .invalidFraming => 2
  | .invalidEncoding => 3
  | .parityError => 4
  | .busy => 5

/-- The numeric outcome code of a reply (R340). -/
def answerCode : Answer → Nat
  | .ok _ => 0
  | .err e => errCode e

/-- The boolean the source reduces an outcome to (R24): success or failure. -/
def answerSuccess : Answer → Bool
  | .ok _ => true
  | .err _ => false

end Sys2Proof.Machine
end

