-- ==== Sys2Proof/Machine/Operands.lean ====
section
/-! DEFINITION. Every operand and result form of the block: the frame word (R80, R121 to R125), the capture and its
line code (R86, R87, R141, R146), the numeric data values (R161 to R172), the record data values (R190 to R203),
and the data-id registry (R95). -/

namespace Sys2Proof.Machine

/-! ### FrameCodec -/

/-- `pack` (R121): the 31-bit body, and above it its parity. -/
def packFrame (msgType : BitVec 3) (dataId : Byte) (dataValue : DataValue) : Frame :=
  frameWord (parity31 (msgType ++ 0#4 ++ dataId ++ dataValue)) msgType 0#4 dataId dataValue

/-- `unpack` (R122). -/
def unpackFrame (f : Frame) : FrameFields where
  parity := frameParity f
  msgType := frameMsgType f
  spare := frameSpare f
  dataId := frameDataId f
  dataValue := frameDataValue f

/-- `build_read_request` (R124). -/
def buildRead (dataId : Byte) : Frame := packFrame MsgType.readData.code dataId 0#16

/-- `build_write_request` (R125). -/
def buildWrite (dataId : Byte) (value : DataValue) : Frame := packFrame MsgType.writeData.code dataId value

/-! ### ManchesterCodec -/

/-- Sample `s[i]` of a capture (R53). -/
def sample (c : Capture) (i : Nat) : Bool := c.getLsbD (67 - i)

/-- The logical bit of a pair of samples (R87); `none` for (1,1) and (0,0). -/
def pairBit : Bool × Bool → Option Bool
  | (true, false) => some true
  | (false, true) => some false
  | (true, true) => none
  | (false, false) => none

/-- Pair `k` of a capture (R11): `(s[2k], s[2k+1])`. -/
def capturePair (c : Capture) (k : Nat) : Bool × Bool := (sample c (2 * k), sample c (2 * k + 1))

/-- Data pairs 1 to `k` of a capture, the first one the most significant bit (R141 step 2, R57). -/
def decodePairs (c : Capture) : Nat → Except Err (BitVec 32)
  | 0 => .ok 0#32
  | k + 1 =>
    match decodePairs c k with
    | .error e => .error e
    | .ok acc =>
      match pairBit (capturePair c (k + 1)) with
      | none => .error .invalidEncoding
      | some b => .ok (acc <<< 1 ||| (BitVec.ofBool b).setWidth 32)

/-- ManchesterCodec decode (R141): framing first (R142), then the 32 data pairs. -/
def manchesterDecode (c : Capture) : Except Err Frame :=
  if capturePair c 0 ≠ (true, false) ∨ capturePair c 33 ≠ (true, false) then .error .invalidFraming
  else decodePairs c 32

/-- The two samples of a logical bit (R87), the earlier one in the higher bit. -/
def pairSamples : Bool → BitVec 2
  | true => 0b10#2
  | false => 0b01#2

/-- The start pair and data pairs 1 to `k` of the capture of `f`, in the low bits (R146). -/
def encodePairs (f : Frame) : Nat → Capture
  | 0 => (pairSamples true).setWidth 68
  | k + 1 => encodePairs f k <<< 2 ||| (pairSamples (f.getLsbD (31 - k))).setWidth 68

/-- ManchesterCodec encode (R146): start pair, 32 data pairs most significant bit first, stop pair. -/
def manchesterEncode (f : Frame) : Capture := encodePairs f 32 <<< 2 ||| (pairSamples true).setWidth 68

/-- What the engine makes of a capture (R237, R238): decode, then the parity check of a frame that decoded. -/
def checkCapture (c : Capture) : Except Err Frame :=
  match manchesterDecode c with
  | .error e => .error e
  | .ok f => if evenParity f then .ok f else .error .parityError

/-! ### Numeric data values -/

/-- Sign, biased exponent and fraction of a binary32 number (R165). -/
def f32Sign (x : F32) : Bool := x.getLsbD 31
/-- The biased exponent, bits 30:23. -/
def f32Exponent (x : F32) : Nat := (x.extractLsb' 23 8).toNat
/-- The fraction, bits 22:0. -/
def f32Fraction (x : F32) : Nat := (x.extractLsb' 0 23).toNat

/-- Neither NaN nor an infinity. -/
def f32Finite (x : F32) : Bool := f32Exponent x != 255

/-- The integer significand: the hidden bit is 0 for exponent 0. -/
def f32Significand (x : F32) : Nat :=
  if f32Exponent x = 0 then f32Fraction x else 2 ^ 23 + f32Fraction x

/-- The exponent field as it scales the significand: |x| is `significand · 2 ^ (scale - 150)`. -/
def f32Scale (x : F32) : Nat := if f32Exponent x = 0 then 1 else f32Exponent x

/-- The rational value of a finite binary32 number; `none` for NaN and the infinities. -/
def f32Value (x : F32) : Option ℚ :=
  if f32Finite x then
    some ((if f32Sign x then -1 else 1) * f32Significand x * (2 : ℚ) ^ ((f32Scale x : ℤ) - 150))
  else none

/-- `as_s16` (R10, R161). -/
def asS16 (v : DataValue) : Int := v.toInt

/-- `as_u16` (R10, R161): modulo 2^16. -/
def asU16 (i : Int) : DataValue := BitVec.ofInt 16 i

/-- The binary32 number with this sign, biased exponent and fraction. -/
def f32OfParts (sign : Bool) (exponent fraction : Nat) : F32 :=
  BitVec.ofBool sign ++ BitVec.ofNat 8 exponent ++ BitVec.ofNat 23 fraction

/-- The binary32 number `i / 256`, for `|i| < 2^24` exactly (R165 (a)); zero is +0.0 (R163). -/
def f32OfInt256 (i : Int) : F32 :=
  let m := i.natAbs
  if m = 0 then 0#32
  else f32OfParts (decide (i < 0)) (Nat.log2 m + 119) (m * 2 ^ (23 - Nat.log2 m) - 2 ^ 23)

/-- `f8_8_to_float` (R163): `as_s16(v) / 256.0`. -/
def f88ToFloat (v : DataValue) : F32 := f32OfInt256 (asS16 v)

/-- `|trunc(x * 256)|` of a finite `x` (R164): multiplying by 256 is exact, and dropping the bits below 1 truncates
toward zero (R167). -/
def f32Times256Magnitude (x : F32) : Nat :=
  if 142 ≤ f32Scale x then f32Significand x * 2 ^ (f32Scale x - 142)
  else f32Significand x / 2 ^ (142 - f32Scale x)

/-- `trunc(x * 256)` of a finite `x`. -/
def f32Times256Trunc (x : F32) : Int :=
  if f32Sign x then -(f32Times256Magnitude x : Int) else (f32Times256Magnitude x : Int)

/-- `f8_8_from_float` (R164); `none` where R168 leaves the result unspecified. -/
def f88FromFloat (x : F32) : Option DataValue :=
  if f32Finite x ∧ -32768 ≤ f32Times256Trunc x ∧ f32Times256Trunc x ≤ 32767 then some (asU16 (f32Times256Trunc x))
  else none

/-- `get_u16` (R170). -/
def getU16 (f : Frame) : DataValue := frameDataValue f

/-- `get_s16` (R171). -/
def getS16 (f : Frame) : Int := asS16 (frameDataValue f)

/-- `get_f8_8` (R172). -/
def getF88 (f : Frame) : F32 := f88ToFloat (frameDataValue f)

/-! ### Record data values -/

/-- The high byte (R9). -/
def highByte (v : DataValue) : Byte := v.extractLsb' 8 8
/-- The low byte (R9). -/
def lowByte (v : DataValue) : Byte := v.extractLsb' 0 8

/-- `decode_u8_u8` (R190). -/
def decodeU8U8 (v : DataValue) : Byte × Byte := (highByte v, lowByte v)

/-- `encode_u8_u8` (R191). -/
def encodeU8U8 (hb lb : Byte) : DataValue := hb ++ lb

/-- `decode_status` (R192, layout R93). -/
def decodeStatus (v : DataValue) : Status where
  chEnable := v.getLsbD 8
  dhwEnable := v.getLsbD 9
  coolingEnable := v.getLsbD 10
  otcActive := v.getLsbD 11
  ch2Enable := v.getLsbD 12
  fault := v.getLsbD 0
  chMode := v.getLsbD 1
  dhwMode := v.getLsbD 2
  flame := v.getLsbD 3
  cooling := v.getLsbD 4
  ch2Mode := v.getLsbD 5
  diagnostic := v.getLsbD 6

/-- The encode counterpart of `decode_status` (R193). -/
def encodeStatus (r : Status) : DataValue :=
  0#3 ++ BitVec.ofBool r.ch2Enable ++ BitVec.ofBool r.otcActive ++ BitVec.ofBool r.coolingEnable
    ++ BitVec.ofBool r.dhwEnable ++ BitVec.ofBool r.chEnable ++ 0#1 ++ BitVec.ofBool r.diagnostic
    ++ BitVec.ofBool r.ch2Mode ++ BitVec.ofBool r.cooling ++ BitVec.ofBool r.flame ++ BitVec.ofBool r.dhwMode
    ++ BitVec.ofBool r.chMode ++ BitVec.ofBool r.fault

/-- The six config flags of one byte, in the order of R94 from bit 0. -/
def configOfByte (b : Byte) : ConfigFlags where
  dhwPresent := b.getLsbD 0
  controlType := b.getLsbD 1
  coolingConfig := b.getLsbD 2
  dhwConfig := b.getLsbD 3
  masterPumpControl := b.getLsbD 4
  ch2Present := b.getLsbD 5

/-- The byte of a Config record; its two unused bits are 0 (R205). -/
def byteOfConfig (r : ConfigFlags) : Byte :=
  0#2 ++ BitVec.ofBool r.ch2Present ++ BitVec.ofBool r.masterPumpControl ++ BitVec.ofBool r.dhwConfig
    ++ BitVec.ofBool r.coolingConfig ++ BitVec.ofBool r.controlType ++ BitVec.ofBool r.dhwPresent

/-- The config record of a data value, for either value of `CONFIG_FLAGS_BYTE` (R94, R194). -/
def configWith (place : Config.FlagsByte) (v : DataValue) : ConfigFlags :=
  match place with
  | .high => configOfByte (highByte v)
  | .low => configOfByte (lowByte v)

/-- `decode_master_config` (R194). -/
def decodeMasterConfig (v : DataValue) : ConfigFlags := configWith Config.configFlagsByte v

/-- `decode_slave_config` (R195): the same function, a distinct call site. -/
def decodeSlaveConfig (v : DataValue) : ConfigFlags := configWith Config.configFlagsByte v

/-- The encode counterpart of the config decoders (R196); the other byte is 0. -/
def encodeConfig (r : ConfigFlags) : DataValue :=
  match Config.configFlagsByte with
  | .high => byteOfConfig r ++ 0#8
  | .low => 0#8 ++ byteOfConfig r

/-- The fault record of its code byte and its flag byte (R96). -/
def faultOfBytes (code flags : Byte) : FaultFlags where
  oemFaultCode := code
  serviceRequest := flags.getLsbD 0
  lockoutReset := flags.getLsbD 1
  lowWaterPressure := flags.getLsbD 2
  gasFlameFault := flags.getLsbD 3
  airPressureFault := flags.getLsbD 4
  waterOvertemp := flags.getLsbD 5

/-- The flag byte of a Fault record; its two unused bits are 0 (R205). -/
def faultFlagByte (r : FaultFlags) : Byte :=
  0#2 ++ BitVec.ofBool r.waterOvertemp ++ BitVec.ofBool r.airPressureFault ++ BitVec.ofBool r.gasFlameFault
    ++ BitVec.ofBool r.lowWaterPressure ++ BitVec.ofBool r.lockoutReset ++ BitVec.ofBool r.serviceRequest

/-- `decode_fault` (R197); with `FAULT_LAYOUT = opentherm` the two bytes are swapped (U9). -/
def decodeFault (v : DataValue) : FaultFlags :=
  match Config.faultLayout with
  | .document => faultOfBytes (highByte v) (lowByte v)
  | .opentherm => faultOfBytes (lowByte v) (highByte v)

/-- The encode counterpart of `decode_fault` (R198). -/
def encodeFault (r : FaultFlags) : DataValue :=
  match Config.faultLayout with
  | .document => r.oemFaultCode ++ faultFlagByte r
  | .opentherm => faultFlagByte r ++ r.oemFaultCode

/-- `decode_remote_params` (R199). -/
def decodeRemoteParams (v : DataValue) : RemoteParams := ⟨highByte v, lowByte v⟩

/-- `decode_time` (R200, layout R98); no range check. -/
def decodeTime (v : DataValue) : TimeOfDay := ⟨v.extractLsb' 13 3, v.extractLsb' 8 5, v.extractLsb' 0 6⟩

/-- The encode counterpart of `decode_time` (R201). -/
def encodeTime (r : TimeOfDay) : DataValue := r.dayOfWeek ++ r.hour ++ 0#2 ++ r.minute

/-- `decode_date` (R202, layout R99); no range check. -/
def decodeDate (v : DataValue) : CalendarDate := ⟨highByte v, lowByte v⟩

/-- The encode counterpart of `decode_date` (R203). -/
def encodeDate (r : CalendarDate) : DataValue := r.month ++ r.day

/-- The Status record of `WR_CH_DHW_ENABLE` (R325): the two enables, every other flag 0. -/
def enableStatus (ch dhw : Bool) : Status where
  chEnable := ch
  dhwEnable := dhw
  coolingEnable := false
  otcActive := false
  ch2Enable := false
  fault := false
  chMode := false
  dhwMode := false
  flame := false
  cooling := false
  ch2Mode := false
  diagnostic := false

/-! ### The registry -/

/-- The value a typed read stores for an accepted frame (R260): the registry's decoder on bits 15:0. -/
def decodeFor (d : Decoder) (f : Frame) : OutValue :=
  match d with
  | .status => .status (decodeStatus (frameDataValue f))
  | .masterConfig => .config (decodeMasterConfig (frameDataValue f))
  | .slaveConfig => .config (decodeSlaveConfig (frameDataValue f))
  | .fault => .fault (decodeFault (frameDataValue f))
  | .remoteParams => .remoteParams (decodeRemoteParams (frameDataValue f))
  | .time => .time (decodeTime (frameDataValue f))
  | .date => .date (decodeDate (frameDataValue f))
  | .u8u8 => .bytes (decodeU8U8 (frameDataValue f)).1 (decodeU8U8 (frameDataValue f)).2
  | .u16 => .u16 (getU16 f)
  | .s16 => .s16 (getS16 f)
  | .f88 => .f32 (getF88 f)

/-- The data-id registry (R95): the decoder of each registered id. -/
def registry : List (Byte × Decoder) :=
  [(0#8, .status), (1#8, .f88), (2#8, .masterConfig), (3#8, .slaveConfig), (5#8, .fault), (6#8, .remoteParams),
   (14#8, .f88), (15#8, .u8u8), (16#8, .f88), (17#8, .f88), (18#8, .f88), (19#8, .f88), (20#8, .time), (21#8, .date),
   (22#8, .u16), (24#8, .f88), (25#8, .f88), (26#8, .f88), (27#8, .f88), (28#8, .f88), (33#8, .s16), (48#8, .u8u8),
   (49#8, .u8u8), (56#8, .f88), (57#8, .f88), (115#8, .u16), (116#8, .u16), (117#8, .u16), (118#8, .u16),
   (119#8, .u16), (120#8, .u16), (121#8, .u16), (122#8, .u16), (123#8, .u16), (124#8, .f88), (125#8, .u8u8),
   (126#8, .u8u8), (127#8, .u8u8)]

end Sys2Proof.Machine
end

