-- ==== Sys2Proof/Machine/Ops.lean ====
section
/-! DEFINITION. The named operations on the state: one update per register and port, the two transport primitives and
the time base (R50 to R56, R352), raising an error (R350, the block's analogue of taking an exception), and the
pieces of a transaction (R231 to R245) that every engine command shares. -/

namespace Sys2Proof.Machine

/-! ### One update per register and port -/

/-- `FSM <- v` (R22). -/
def State.setFsm (s : State) (v : Fsm) : State := { s with fsm := v }

/-- `TIMEOUT <- v` (R25). -/
def State.setTimeout (s : State) (v : Millis) : State := { s with timeout := v }

/-- `XREQ <- request; XTMO <- timeout; XCMD <- this command` (R232). -/
def State.latch (s : State) (request : Frame) (timeout : Millis) (x : XCmd) : State :=
  { s with xreq := request, xtmo := timeout, xcmd := x }

/-- `XT0 <- v` (R232). -/
def State.setT0 (s : State) (v : Millis) : State := { s with xt0 := v }

/-- `OUT <- v`, whole (R29). -/
def State.writeOut (s : State) (v : OutValue) : State := { s with out := v, outWritten := true }

/-- `TxFrame(w)` (R51): the word goes to the transport, unchanged. -/
def State.transmit (s : State) (w : Frame) : State := { s with sent := w :: s.sent }

/-- The reply to a command (R20). -/
def State.pushReply (s : State) (cmd : Instr) (a : Answer) : State := { s with replies := ⟨cmd, a⟩ :: s.replies }

/-- The host has read the output location (R29). -/
def State.recordRead (s : State) (r : OutRead) : State := { s with reads := r :: s.reads }

/-- The next move of the outside world is taken. -/
def State.popInput (s : State) : State := { s with inputs := s.inputs.tail }

/-- A free value is drawn. -/
def State.draw (s : State) : State := { s with fresh := s.fresh + 1 }

/-- Time passes before a reading of the time base (R352: a reading is at or after the previous one in true time). -/
def State.passTime (s : State) : State :=
  match s.delays with
  | d :: ds => { s with clock := s.clock + d, delays := ds }
  | [] => { s with clock := s.clock + Config.delay s.fresh, fresh := s.fresh + 1 }

/-- `TimeNow()` (R352): the count of milliseconds, which wraps at 2^32. -/
def State.timeNow (s : State) : Millis := BitVec.ofNat 32 s.clock

/-- `Sleep(POLL_INTERVAL_MS)` (R236): the next reading is at least that much later. DESIGN CHOICE (log 23): a reset does
not cut the sleep short, so this holds of the first reading after a reset too. -/
def State.sleep (s : State) : State := { s with clock := s.clock + s.pollMs }

/-! ### Raising an error -/

/-- The effect of each error on the block (R350). `TimedOut` ends the transaction with an error reply; `Busy` and a
decode error of `MDEC` are replies only; `ParityError` has no reply of its own (R344). -/
def raiseError (e : Err) (cmd : Instr) (s : State) : State :=
  match e with
  | .timedOut => (s.setFsm .idle).pushReply cmd (.err .timedOut)
  | .busy => s.pushReply cmd (.err .busy)
  | .invalidFraming => s.pushReply cmd (.err .invalidFraming)
  | .invalidEncoding => s.pushReply cmd (.err .invalidEncoding)
  | .parityError => s

/-- A command replies `Ok` with its result (R20). -/
def replyOk (cmd : Instr) (v : Value) (s : State) : State := s.pushReply cmd (.ok v)

/-! ### The pieces of a transaction -/

/-- The check every engine command begins with (R231): refused with `Busy` while a transaction is in flight, and then
nothing else of the command happens (R349 item 1). -/
def whenIdle (cmd : Instr) (s : State) (go : State → State) : State :=
  match s.fsm with
  | .awaitingResponse => raiseError .busy cmd s
  | .idle => go s

/-- The start of a transaction (R232), one step: latch, transmit once, sample the time base, wait. -/
def startTransaction (x : XCmd) (request : Frame) (timeout : Millis) (s : State) : State :=
  let t := ((s.latch request timeout x).transmit request).passTime
  (t.setT0 t.timeNow).setFsm .awaitingResponse

/-- The completion of `XCMD` with `Ok(f)` (R238, R351): `OUT` is written whole before the reply. -/
def completeOk (f : Frame) (s : State) : State :=
  let t := s.setFsm .idle
  match s.xcmd.finish with
  | .replyFrame => replyOk s.xcmd.cmd (.frame f) t
  | .store d => replyOk s.xcmd.cmd .none (t.writeOut (decodeFor d f))
  | .acknowledge => replyOk s.xcmd.cmd .none t

/-- The timeout check and, while the window is open, the sleep (R235 items 2 and 3, R239, R240). -/
def checkWindow (s : State) : State :=
  let t := s.passTime
  if windowExpired t.timeNow t.xt0 t.xtmo then raiseError .timedOut t.xcmd.cmd t else t.sleep

/-- One loop body (R235) on an answer of `RxPoll()`: success ends the transaction (R238); a capture that fails is
discarded, which changes nothing (R237). -/
def loopBody (answer : Option Capture) (s : State) : State :=
  match answer with
  | none => checkWindow s
  | some c =>
    match checkCapture c with
    | .ok f => completeOk f s
    | .error _ => checkWindow s

/-- The engine's step `iterate` (R243): it has none in `Idle`, where captures are not consumed. -/
def iterate (answer : Option Capture) (s : State) : State :=
  match s.fsm with
  | .idle => s
  | .awaitingResponse => loopBody answer s

/-- The engine's step on a free answer of `RxPoll()` (R54). -/
def iterateFree (s : State) : State := iterate (Config.rxAnswer s.fresh) s.draw

/-- A typed read (R260): the transaction of `BLDRD(d)` with the register `TIMEOUT`. -/
def typedRead (cmd : Instr) (dataId : Byte) (d : Decoder) (s : State) : State :=
  whenIdle cmd s fun s => startTransaction ⟨cmd, .store d⟩ (buildRead dataId) s.timeout s

/-- A typed write (R320): the transaction of `BLDWR(d, v)` with the register `TIMEOUT`. -/
def typedWrite (cmd : Instr) (dataId : Byte) (v : DataValue) (s : State) : State :=
  whenIdle cmd s fun s => startTransaction ⟨cmd, .acknowledge⟩ (buildWrite dataId v) s.timeout s

/-- A setpoint write (R320, R321 to R324): the operand is converted only when the command is accepted (R349 item 1);
where R168 leaves the value unspecified it is free, and the frame is sent all the same (log 8). -/
def setpointWrite (cmd : Instr) (dataId : Byte) (t : F32) (s : State) : State :=
  whenIdle cmd s fun s =>
    match f88FromFloat t with
    | some v => startTransaction ⟨cmd, .acknowledge⟩ (buildWrite dataId v) s.timeout s
    | none =>
      startTransaction ⟨cmd, .acknowledge⟩ (buildWrite dataId (Config.f88Unspecified s.fresh t)) s.timeout s.draw

/-! ### The host's read of `OUT` and the reset -/

/-- The host reads the output location (R29): the block does not change. Before the first successful `RD_*` command the
read is the host's own fault and finds any value (R33, U11; log 10); the block goes on (R347). -/
def hostReadOut (s : State) : State :=
  if s.outWritten then s.recordRead (.value s.out) else s.draw.recordRead (.tooEarly (Config.earlyOut s.fresh))

/-- Reset of a running block (R380 to R382): the registers of R33 take their reset values and a transaction is
abandoned without a reply; the transport, the time base and what was already sent and replied are untouched. DESIGN
CHOICE (log 23): the sleep the engine was in has run to its end. -/
def State.resetBlock (s : State) : State :=
  { s with
    fsm := State.reset.fsm
    timeout := State.reset.timeout
    xreq := State.reset.xreq
    xt0 := State.reset.xt0
    xtmo := State.reset.xtmo
    xcmd := State.reset.xcmd
    out := State.reset.out
    outWritten := State.reset.outWritten }

end Sys2Proof.Machine
end

