-- ==== Sys2Proof/Machine/FrameCodec.lean ====
section
/-! DEFINITION. FrameCodec (41_framecodec.md): five pure commands, usable in either state of `FSM` (R120). -/

namespace Sys2Proof.Machine

/-- `PACK` (R121): replies the packed frame. -/
def execPack (msgType : BitVec 3) (dataId : Byte) (dataValue : DataValue) (s : State) : Host.Outcome State Fault Refusal :=
  .next (replyOk (.pack msgType dataId dataValue) (.frame (packFrame msgType dataId dataValue)) s)

/-- `UNPACK` (R122): replies the five fields; nothing is checked. -/
def execUnpack (frame : Frame) (s : State) : Host.Outcome State Fault Refusal :=
  .next (replyOk (.unpack frame) (.fields (unpackFrame frame)) s)

/-- `VPAR` (R123): replies whether the number of set bits is even. -/
def execVpar (frame : Frame) (s : State) : Host.Outcome State Fault Refusal :=
  .next (replyOk (.vpar frame) (.bit (evenParity frame)) s)

/-- `BLDRD` (R124): replies the read request. -/
def execBldrd (dataId : Byte) (s : State) : Host.Outcome State Fault Refusal :=
  .next (replyOk (.bldrd dataId) (.frame (buildRead dataId)) s)

/-- `BLDWR` (R125): replies the write request. -/
def execBldwr (dataId : Byte) (value : DataValue) (s : State) : Host.Outcome State Fault Refusal :=
  .next (replyOk (.bldwr dataId value) (.frame (buildWrite dataId value)) s)

end Sys2Proof.Machine
end

