-- ==== Sys2Proof/Machine/Frames.lean ====
section
/-! DEFINITION. The frame rows of the opcode table (R82): the block meets a frame of any message type in one way, as the answer of a
poll (R238, R243); nothing but its parity is examined (R83, R105, U3, U4). See log 1. -/

namespace Sys2Proof.Machine

/-- The engine's step whose `RxPoll()` returns the capture of this frame (R243): in `Idle` it is not consumed; in
`AwaitingResponse` it goes through decode, parity check and, where discarded, the timeout check (R235). -/
def receiveFrame (f : Frame) (s : State) : State := iterate (some (manchesterEncode f)) s

/-- `FRAME.READ-DATA` (R82 code 0): the engine's poll returns a capture of this frame. -/
def execFrameReadData (parity : Bool) (spare : BitVec 4) (dataId : Byte) (dataValue : DataValue) (s : State) : Host.Outcome State Fault Refusal :=
  .next (receiveFrame (frameWord parity 0#3 spare dataId dataValue) s)

/-- `FRAME.WRITE-DATA` (R82 code 1): the engine's poll returns a capture of this frame. -/
def execFrameWriteData (parity : Bool) (spare : BitVec 4) (dataId : Byte) (dataValue : DataValue) (s : State) : Host.Outcome State Fault Refusal :=
  .next (receiveFrame (frameWord parity 1#3 spare dataId dataValue) s)

/-- `FRAME.INVALID-DATA` (R82 code 2): the engine's poll returns a capture of this frame. -/
def execFrameInvalidData (parity : Bool) (spare : BitVec 4) (dataId : Byte) (dataValue : DataValue) (s : State) : Host.Outcome State Fault Refusal :=
  .next (receiveFrame (frameWord parity 2#3 spare dataId dataValue) s)

/-- `FRAME.RESERVED` (R82 code 3): the engine's poll returns a capture of this frame. -/
def execFrameReserved (parity : Bool) (spare : BitVec 4) (dataId : Byte) (dataValue : DataValue) (s : State) : Host.Outcome State Fault Refusal :=
  .next (receiveFrame (frameWord parity 3#3 spare dataId dataValue) s)

/-- `FRAME.READ-ACK` (R82 code 4): the engine's poll returns a capture of this frame. -/
def execFrameReadAck (parity : Bool) (spare : BitVec 4) (dataId : Byte) (dataValue : DataValue) (s : State) : Host.Outcome State Fault Refusal :=
  .next (receiveFrame (frameWord parity 4#3 spare dataId dataValue) s)

/-- `FRAME.WRITE-ACK` (R82 code 5): the engine's poll returns a capture of this frame. -/
def execFrameWriteAck (parity : Bool) (spare : BitVec 4) (dataId : Byte) (dataValue : DataValue) (s : State) : Host.Outcome State Fault Refusal :=
  .next (receiveFrame (frameWord parity 5#3 spare dataId dataValue) s)

/-- `FRAME.DATA-INVALID` (R82 code 6): the engine's poll returns a capture of this frame. -/
def execFrameDataInvalid (parity : Bool) (spare : BitVec 4) (dataId : Byte) (dataValue : DataValue) (s : State) : Host.Outcome State Fault Refusal :=
  .next (receiveFrame (frameWord parity 6#3 spare dataId dataValue) s)

/-- `FRAME.UNKNOWN-DATAID` (R82 code 7): the engine's poll returns a capture of this frame. -/
def execFrameUnknownDataid (parity : Bool) (spare : BitVec 4) (dataId : Byte) (dataValue : DataValue) (s : State) : Host.Outcome State Fault Refusal :=
  .next (receiveFrame (frameWord parity 7#3 spare dataId dataValue) s)

end Sys2Proof.Machine
end

