-- ==== Sys2Proof/Machine/Manchester.lean ====
section
/-! DEFINITION. ManchesterCodec (42_manchester.md): two pure commands (R140). -/

namespace Sys2Proof.Machine

/-- `MDEC` (R141): replies the frame, or the decode error (R342, R343); no register changes. -/
def execMdec (capture : Capture) (s : State) : Host.Outcome State Fault Refusal :=
  match manchesterDecode capture with
  | .ok f => .next (replyOk (.mdec capture) (.frame f) s)
  | .error e => .next (raiseError e (.mdec capture) s)

/-- `MENC` (R146): replies the capture of the frame. -/
def execMenc (frame : Frame) (s : State) : Host.Outcome State Fault Refusal :=
  .next (replyOk (.menc frame) (.capture (manchesterEncode frame)) s)

end Sys2Proof.Machine
end

