-- ==== Sys2Proof/Machine/Numeric.lean ====
section
/-! DEFINITION. DataValueCodec, numeric kinds (43_datavalue_numeric.md): five pure commands (R160). -/

namespace Sys2Proof.Machine

/-- `F88TOF` (R163): replies `as_s16(v) / 256` as a binary32 number. -/
def execF88tof (v : DataValue) (s : State) : Host.Outcome State Fault Refusal :=
  .next (replyOk (.f88tof v) (.typed (.f32 (f88ToFloat v))) s)

/-- `F88FROMF` (R164): replies `trunc(x * 256)`; where R168 leaves the result unspecified it is free (log 8). -/
def execF88fromf (x : F32) (s : State) : Host.Outcome State Fault Refusal :=
  match f88FromFloat x with
  | some v => .next (replyOk (.f88fromf x) (.typed (.u16 v)) s)
  | none => .next (replyOk (.f88fromf x) (.typed (.u16 (Config.f88Unspecified s.fresh x))) s.draw)

/-- `GETU16` (R170): replies the low 16 bits. -/
def execGetu16 (frame : Frame) (s : State) : Host.Outcome State Fault Refusal :=
  .next (replyOk (.getu16 frame) (.typed (.u16 (getU16 frame))) s)

/-- `GETS16` (R171): replies the low 16 bits as a signed number. -/
def execGets16 (frame : Frame) (s : State) : Host.Outcome State Fault Refusal :=
  .next (replyOk (.gets16 frame) (.typed (.s16 (getS16 frame))) s)

/-- `GETF88` (R172): replies the low 16 bits as f8.8. -/
def execGetf88 (frame : Frame) (s : State) : Host.Outcome State Fault Refusal :=
  .next (replyOk (.getf88 frame) (.typed (.f32 (getF88 frame))) s)

end Sys2Proof.Machine
end

