-- ==== Sys2Proof/Machine/Reads.lean ====
section
/-! DEFINITION. Interface, the 38 typed reads (46_interface_reads.md, R260). -/

namespace Sys2Proof.Machine

/-- `RD_STATUS` (R261): typed read of id 0 with `DECSTATUS`; the request is 0x00000000. -/
def execRdStatus (s : State) : Host.Outcome State Fault Refusal :=
  .next (typedRead .rdStatus 0#8 .status s)

/-- `RD_CONTROL_SETPOINT` (R262): typed read of id 1 with `GETF88`; the request is 0x80010000. -/
def execRdControlSetpoint (s : State) : Host.Outcome State Fault Refusal :=
  .next (typedRead .rdControlSetpoint 1#8 .f88 s)

/-- `RD_MASTER_CONFIG` (R263): typed read of id 2 with `DECMCFG`; the request is 0x80020000. -/
def execRdMasterConfig (s : State) : Host.Outcome State Fault Refusal :=
  .next (typedRead .rdMasterConfig 2#8 .masterConfig s)

/-- `RD_SLAVE_CONFIG` (R264): typed read of id 3 with `DECSCFG`; the request is 0x00030000. -/
def execRdSlaveConfig (s : State) : Host.Outcome State Fault Refusal :=
  .next (typedRead .rdSlaveConfig 3#8 .slaveConfig s)

/-- `RD_FAULT` (R265): typed read of id 5 with `DECFAULT`; the request is 0x00050000. -/
def execRdFault (s : State) : Host.Outcome State Fault Refusal :=
  .next (typedRead .rdFault 5#8 .fault s)

/-- `RD_REMOTE_PARAMS` (R266): typed read of id 6 with `DECRP`; the request is 0x00060000. -/
def execRdRemoteParams (s : State) : Host.Outcome State Fault Refusal :=
  .next (typedRead .rdRemoteParams 6#8 .remoteParams s)

/-- `RD_MAX_REL_MOD` (R267): typed read of id 14 with `GETF88`; the request is 0x800E0000. -/
def execRdMaxRelMod (s : State) : Host.Outcome State Fault Refusal :=
  .next (typedRead .rdMaxRelMod 14#8 .f88 s)

/-- `RD_MAX_CAPACITY` (R268): typed read of id 15 with `DECU8U8`; the request is 0x000F0000. -/
def execRdMaxCapacity (s : State) : Host.Outcome State Fault Refusal :=
  .next (typedRead .rdMaxCapacity 15#8 .u8u8 s)

/-- `RD_ROOM_SETPOINT` (R269): typed read of id 16 with `GETF88`; the request is 0x80100000. -/
def execRdRoomSetpoint (s : State) : Host.Outcome State Fault Refusal :=
  .next (typedRead .rdRoomSetpoint 16#8 .f88 s)

/-- `RD_REL_MOD` (R270): typed read of id 17 with `GETF88`; the request is 0x00110000. -/
def execRdRelMod (s : State) : Host.Outcome State Fault Refusal :=
  .next (typedRead .rdRelMod 17#8 .f88 s)

/-- `RD_CH_PRESSURE` (R271): typed read of id 18 with `GETF88`; the request is 0x00120000. -/
def execRdChPressure (s : State) : Host.Outcome State Fault Refusal :=
  .next (typedRead .rdChPressure 18#8 .f88 s)

/-- `RD_DHW_FLOW` (R272): typed read of id 19 with `GETF88`; the request is 0x80130000. -/
def execRdDhwFlow (s : State) : Host.Outcome State Fault Refusal :=
  .next (typedRead .rdDhwFlow 19#8 .f88 s)

/-- `RD_DAYTIME` (R273): typed read of id 20 with `DECTIME`; the request is 0x00140000. -/
def execRdDaytime (s : State) : Host.Outcome State Fault Refusal :=
  .next (typedRead .rdDaytime 20#8 .time s)

/-- `RD_DATE` (R274): typed read of id 21 with `DECDATE`; the request is 0x80150000. -/
def execRdDate (s : State) : Host.Outcome State Fault Refusal :=
  .next (typedRead .rdDate 21#8 .date s)

/-- `RD_YEAR` (R275): typed read of id 22 with `GETU16`; the request is 0x80160000. -/
def execRdYear (s : State) : Host.Outcome State Fault Refusal :=
  .next (typedRead .rdYear 22#8 .u16 s)

/-- `RD_ROOM_TEMP` (R276): typed read of id 24 with `GETF88`; the request is 0x00180000. -/
def execRdRoomTemp (s : State) : Host.Outcome State Fault Refusal :=
  .next (typedRead .rdRoomTemp 24#8 .f88 s)

/-- `RD_BOILER_TEMP` (R277): typed read of id 25 with `GETF88`; the request is 0x80190000. -/
def execRdBoilerTemp (s : State) : Host.Outcome State Fault Refusal :=
  .next (typedRead .rdBoilerTemp 25#8 .f88 s)

/-- `RD_DHW_TEMP` (R278): typed read of id 26 with `GETF88`; the request is 0x801A0000. -/
def execRdDhwTemp (s : State) : Host.Outcome State Fault Refusal :=
  .next (typedRead .rdDhwTemp 26#8 .f88 s)

/-- `RD_OUTSIDE_TEMP` (R279): typed read of id 27 with `GETF88`; the request is 0x001B0000. -/
def execRdOutsideTemp (s : State) : Host.Outcome State Fault Refusal :=
  .next (typedRead .rdOutsideTemp 27#8 .f88 s)

/-- `RD_RETURN_TEMP` (R280): typed read of id 28 with `GETF88`; the request is 0x801C0000. -/
def execRdReturnTemp (s : State) : Host.Outcome State Fault Refusal :=
  .next (typedRead .rdReturnTemp 28#8 .f88 s)

/-- `RD_EXHAUST_TEMP` (R281): typed read of id 33 with `GETS16`; the request is 0x00210000. -/
def execRdExhaustTemp (s : State) : Host.Outcome State Fault Refusal :=
  .next (typedRead .rdExhaustTemp 33#8 .s16 s)

/-- `RD_DHW_BOUNDS` (R282): typed read of id 48 with `DECU8U8`; the request is 0x00300000. -/
def execRdDhwBounds (s : State) : Host.Outcome State Fault Refusal :=
  .next (typedRead .rdDhwBounds 48#8 .u8u8 s)

/-- `RD_CH_BOUNDS` (R283): typed read of id 49 with `DECU8U8`; the request is 0x80310000. -/
def execRdChBounds (s : State) : Host.Outcome State Fault Refusal :=
  .next (typedRead .rdChBounds 49#8 .u8u8 s)

/-- `RD_DHW_SETPOINT` (R284): typed read of id 56 with `GETF88`; the request is 0x80380000. -/
def execRdDhwSetpoint (s : State) : Host.Outcome State Fault Refusal :=
  .next (typedRead .rdDhwSetpoint 56#8 .f88 s)

/-- `RD_MAX_CH_SETPOINT` (R285): typed read of id 57 with `GETF88`; the request is 0x00390000. -/
def execRdMaxChSetpoint (s : State) : Host.Outcome State Fault Refusal :=
  .next (typedRead .rdMaxChSetpoint 57#8 .f88 s)

/-- `RD_OEM_DIAG` (R286): typed read of id 115 with `GETU16`; the request is 0x80730000. -/
def execRdOemDiag (s : State) : Host.Outcome State Fault Refusal :=
  .next (typedRead .rdOemDiag 115#8 .u16 s)

/-- `RD_COUNTER_116` (R287): typed read of id 116 with `GETU16`; the request is 0x00740000. -/
def execRdCounter116 (s : State) : Host.Outcome State Fault Refusal :=
  .next (typedRead .rdCounter116 116#8 .u16 s)

/-- `RD_COUNTER_117` (R288): typed read of id 117 with `GETU16`; the request is 0x80750000. -/
def execRdCounter117 (s : State) : Host.Outcome State Fault Refusal :=
  .next (typedRead .rdCounter117 117#8 .u16 s)

/-- `RD_COUNTER_118` (R289): typed read of id 118 with `GETU16`; the request is 0x80760000. -/
def execRdCounter118 (s : State) : Host.Outcome State Fault Refusal :=
  .next (typedRead .rdCounter118 118#8 .u16 s)

/-- `RD_COUNTER_119` (R290): typed read of id 119 with `GETU16`; the request is 0x00770000. -/
def execRdCounter119 (s : State) : Host.Outcome State Fault Refusal :=
  .next (typedRead .rdCounter119 119#8 .u16 s)

/-- `RD_COUNTER_120` (R291): typed read of id 120 with `GETU16`; the request is 0x00780000. -/
def execRdCounter120 (s : State) : Host.Outcome State Fault Refusal :=
  .next (typedRead .rdCounter120 120#8 .u16 s)

/-- `RD_COUNTER_121` (R292): typed read of id 121 with `GETU16`; the request is 0x80790000. -/
def execRdCounter121 (s : State) : Host.Outcome State Fault Refusal :=
  .next (typedRead .rdCounter121 121#8 .u16 s)

/-- `RD_COUNTER_122` (R293): typed read of id 122 with `GETU16`; the request is 0x807A0000. -/
def execRdCounter122 (s : State) : Host.Outcome State Fault Refusal :=
  .next (typedRead .rdCounter122 122#8 .u16 s)

/-- `RD_COUNTER_123` (R294): typed read of id 123 with `GETU16`; the request is 0x007B0000. -/
def execRdCounter123 (s : State) : Host.Outcome State Fault Refusal :=
  .next (typedRead .rdCounter123 123#8 .u16 s)

/-- `RD_OT_VERSION` (R295): typed read of id 124 with `GETF88`; the request is 0x807C0000. -/
def execRdOtVersion (s : State) : Host.Outcome State Fault Refusal :=
  .next (typedRead .rdOtVersion 124#8 .f88 s)

/-- `RD_VERSION_125` (R296): typed read of id 125 with `DECU8U8`; the request is 0x007D0000. -/
def execRdVersion125 (s : State) : Host.Outcome State Fault Refusal :=
  .next (typedRead .rdVersion125 125#8 .u8u8 s)

/-- `RD_VERSION_126` (R297): typed read of id 126 with `DECU8U8`; the request is 0x007E0000. -/
def execRdVersion126 (s : State) : Host.Outcome State Fault Refusal :=
  .next (typedRead .rdVersion126 126#8 .u8u8 s)

/-- `RD_VERSION_127` (R298): typed read of id 127 with `DECU8U8`; the request is 0x807F0000. -/
def execRdVersion127 (s : State) : Host.Outcome State Fault Refusal :=
  .next (typedRead .rdVersion127 127#8 .u8u8 s)

end Sys2Proof.Machine
end

