-- ==== Sys2Proof/Machine/Records.lean ====
section
/-! DEFINITION. DataValueCodec, record kinds (44_datavalue_records.md): fourteen pure and total commands (R206). -/

namespace Sys2Proof.Machine

/-- `DECU8U8` (R190): replies the high and the low byte. -/
def execDecu8u8 (v : DataValue) (s : State) : Host.Outcome State Fault Refusal :=
  .next (replyOk (.decu8u8 v) (.typed (.bytes (decodeU8U8 v).1 (decodeU8U8 v).2)) s)

/-- `ENCU8U8` (R191): replies the two bytes as one value. -/
def execEncu8u8 (hb : Byte) (lb : Byte) (s : State) : Host.Outcome State Fault Refusal :=
  .next (replyOk (.encu8u8 hb lb) (.typed (.u16 (encodeU8U8 hb lb))) s)

/-- `DECSTATUS` (R192): replies the Status record. -/
def execDecstatus (v : DataValue) (s : State) : Host.Outcome State Fault Refusal :=
  .next (replyOk (.decstatus v) (.typed (.status (decodeStatus v))) s)

/-- `ENCSTATUS` (R193): replies the value of a Status record. -/
def execEncstatus (r : Status) (s : State) : Host.Outcome State Fault Refusal :=
  .next (replyOk (.encstatus r) (.typed (.u16 (encodeStatus r))) s)

/-- `DECMCFG` (R194): replies the Config record of id 2. -/
def execDecmcfg (v : DataValue) (s : State) : Host.Outcome State Fault Refusal :=
  .next (replyOk (.decmcfg v) (.typed (.config (decodeMasterConfig v))) s)

/-- `DECSCFG` (R195): replies the Config record of id 3. -/
def execDecscfg (v : DataValue) (s : State) : Host.Outcome State Fault Refusal :=
  .next (replyOk (.decscfg v) (.typed (.config (decodeSlaveConfig v))) s)

/-- `ENCCFG` (R196): replies the value of a Config record. -/
def execEnccfg (r : ConfigFlags) (s : State) : Host.Outcome State Fault Refusal :=
  .next (replyOk (.enccfg r) (.typed (.u16 (encodeConfig r))) s)

/-- `DECFAULT` (R197): replies the Fault record. -/
def execDecfault (v : DataValue) (s : State) : Host.Outcome State Fault Refusal :=
  .next (replyOk (.decfault v) (.typed (.fault (decodeFault v))) s)

/-- `ENCFAULT` (R198): replies the value of a Fault record. -/
def execEncfault (r : FaultFlags) (s : State) : Host.Outcome State Fault Refusal :=
  .next (replyOk (.encfault r) (.typed (.u16 (encodeFault r))) s)

/-- `DECRP` (R199): replies the two raw bytes. -/
def execDecrp (v : DataValue) (s : State) : Host.Outcome State Fault Refusal :=
  .next (replyOk (.decrp v) (.typed (.remoteParams (decodeRemoteParams v))) s)

/-- `DECTIME` (R200): replies the Time record. -/
def execDectime (v : DataValue) (s : State) : Host.Outcome State Fault Refusal :=
  .next (replyOk (.dectime v) (.typed (.time (decodeTime v))) s)

/-- `ENCTIME` (R201): replies the value of a Time record. -/
def execEnctime (r : TimeOfDay) (s : State) : Host.Outcome State Fault Refusal :=
  .next (replyOk (.enctime r) (.typed (.u16 (encodeTime r))) s)

/-- `DECDATE` (R202): replies the Date record. -/
def execDecdate (v : DataValue) (s : State) : Host.Outcome State Fault Refusal :=
  .next (replyOk (.decdate v) (.typed (.date (decodeDate v))) s)

/-- `ENCDATE` (R203): replies the value of a Date record. -/
def execEncdate (r : CalendarDate) (s : State) : Host.Outcome State Fault Refusal :=
  .next (replyOk (.encdate r) (.typed (.u16 (encodeDate r))) s)

end Sys2Proof.Machine
end

