-- ==== Sys2Proof/Machine/Transaction.lean ====
section
/-! DEFINITION. TransactionEngine (45_transaction.md): `XACT` and `SETTMO`. -/

namespace Sys2Proof.Machine

/-- `XACT` (R230): starts the transaction of this request word, whatever it is, with this timeout. -/
def execXact (request : Frame) (timeout : Millis) (s : State) : Host.Outcome State Fault Refusal :=
  .next (whenIdle (.xact request timeout) s
    (startTransaction ⟨.xact request timeout, .replyFrame⟩ request timeout))

/-- `SETTMO` (R245): writes `TIMEOUT` and replies `Ok`; the transport is not touched. -/
def execSettmo (ms : Millis) (s : State) : Host.Outcome State Fault Refusal :=
  .next (whenIdle (.settmo ms) s fun s => replyOk (.settmo ms) .none (s.setTimeout ms))

end Sys2Proof.Machine
end

