-- ==== Sys2Proof/Machine/Writes.lean ====
section
/-! DEFINITION. Interface, the 8 typed writes (47_interface_writes.md, R320). -/

namespace Sys2Proof.Machine

/-- `WR_CONTROL_SETPOINT` (R321): typed write of id 1, encoded by F88FROMF. -/
def execWrControlSetpoint (t : F32) (s : State) : Host.Outcome State Fault Refusal :=
  .next (setpointWrite (.wrControlSetpoint t) 1#8 t s)

/-- `WR_ROOM_SETPOINT` (R322): typed write of id 16, encoded by F88FROMF. -/
def execWrRoomSetpoint (t : F32) (s : State) : Host.Outcome State Fault Refusal :=
  .next (setpointWrite (.wrRoomSetpoint t) 16#8 t s)

/-- `WR_DHW_SETPOINT` (R323): typed write of id 56, encoded by F88FROMF. -/
def execWrDhwSetpoint (t : F32) (s : State) : Host.Outcome State Fault Refusal :=
  .next (setpointWrite (.wrDhwSetpoint t) 56#8 t s)

/-- `WR_MAX_CH_SETPOINT` (R324): typed write of id 57, encoded by F88FROMF. -/
def execWrMaxChSetpoint (t : F32) (s : State) : Host.Outcome State Fault Refusal :=
  .next (setpointWrite (.wrMaxChSetpoint t) 57#8 t s)

/-- `WR_CH_DHW_ENABLE` (R325): typed write of id 0, encoded by ENCSTATUS of the two enables. -/
def execWrChDhwEnable (ch : Bool) (dhw : Bool) (s : State) : Host.Outcome State Fault Refusal :=
  .next (typedWrite (.wrChDhwEnable ch dhw) 0#8 (encodeStatus (enableStatus ch dhw)) s)

/-- `WR_DAYTIME` (R326): typed write of id 20, encoded by ENCTIME. -/
def execWrDaytime (r : TimeOfDay) (s : State) : Host.Outcome State Fault Refusal :=
  .next (typedWrite (.wrDaytime r) 20#8 (encodeTime r) s)

/-- `WR_DATE` (R327): typed write of id 21, encoded by ENCDATE. -/
def execWrDate (r : CalendarDate) (s : State) : Host.Outcome State Fault Refusal :=
  .next (typedWrite (.wrDate r) 21#8 (encodeDate r) s)

/-- `WR_YEAR` (R328): typed write of id 22, encoded by the identity. -/
def execWrYear (y : DataValue) (s : State) : Host.Outcome State Fault Refusal :=
  .next (typedWrite (.wrYear y) 22#8 y s)

end Sys2Proof.Machine
end

