-- ==== Sys2Proof/Machine/Dispatch.lean ====
section
/-! DEFINITION. `exec`: one arm per constructor of `Instr`, each a direct call of its meaning. -/

namespace Sys2Proof.Machine

def exec (i : Instr) (s : State) : Host.Outcome State Fault Refusal :=
  match i with
  | .pack msgType dataId dataValue => Sys2Proof.Machine.execPack msgType dataId dataValue s
  | .unpack frame => Sys2Proof.Machine.execUnpack frame s
  | .vpar frame => Sys2Proof.Machine.execVpar frame s
  | .bldrd dataId => Sys2Proof.Machine.execBldrd dataId s
  | .bldwr dataId value => Sys2Proof.Machine.execBldwr dataId value s
  | .mdec capture => Sys2Proof.Machine.execMdec capture s
  | .menc frame => Sys2Proof.Machine.execMenc frame s
  | .f88tof v => Sys2Proof.Machine.execF88tof v s
  | .f88fromf x => Sys2Proof.Machine.execF88fromf x s
  | .getu16 frame => Sys2Proof.Machine.execGetu16 frame s
  | .gets16 frame => Sys2Proof.Machine.execGets16 frame s
  | .getf88 frame => Sys2Proof.Machine.execGetf88 frame s
  | .decu8u8 v => Sys2Proof.Machine.execDecu8u8 v s
  | .encu8u8 hb lb => Sys2Proof.Machine.execEncu8u8 hb lb s
  | .decstatus v => Sys2Proof.Machine.execDecstatus v s
  | .encstatus r => Sys2Proof.Machine.execEncstatus r s
  | .decmcfg v => Sys2Proof.Machine.execDecmcfg v s
  | .decscfg v => Sys2Proof.Machine.execDecscfg v s
  | .enccfg r => Sys2Proof.Machine.execEnccfg r s
  | .decfault v => Sys2Proof.Machine.execDecfault v s
  | .encfault r => Sys2Proof.Machine.execEncfault r s
  | .decrp v => Sys2Proof.Machine.execDecrp v s
  | .dectime v => Sys2Proof.Machine.execDectime v s
  | .enctime r => Sys2Proof.Machine.execEnctime r s
  | .decdate v => Sys2Proof.Machine.execDecdate v s
  | .encdate r => Sys2Proof.Machine.execEncdate r s
  | .xact request timeout => Sys2Proof.Machine.execXact request timeout s
  | .settmo ms => Sys2Proof.Machine.execSettmo ms s
  | .wrControlSetpoint t => Sys2Proof.Machine.execWrControlSetpoint t s
  | .wrRoomSetpoint t => Sys2Proof.Machine.execWrRoomSetpoint t s
  | .wrDhwSetpoint t => Sys2Proof.Machine.execWrDhwSetpoint t s
  | .wrMaxChSetpoint t => Sys2Proof.Machine.execWrMaxChSetpoint t s
  | .wrChDhwEnable ch dhw => Sys2Proof.Machine.execWrChDhwEnable ch dhw s
  | .wrDaytime r => Sys2Proof.Machine.execWrDaytime r s
  | .wrDate r => Sys2Proof.Machine.execWrDate r s
  | .wrYear y => Sys2Proof.Machine.execWrYear y s
  | .rdStatus => Sys2Proof.Machine.execRdStatus s
  | .rdControlSetpoint => Sys2Proof.Machine.execRdControlSetpoint s
  | .rdMasterConfig => Sys2Proof.Machine.execRdMasterConfig s
  | .rdSlaveConfig => Sys2Proof.Machine.execRdSlaveConfig s
  | .rdFault => Sys2Proof.Machine.execRdFault s
  | .rdRemoteParams => Sys2Proof.Machine.execRdRemoteParams s
  | .rdMaxRelMod => Sys2Proof.Machine.execRdMaxRelMod s
  | .rdMaxCapacity => Sys2Proof.Machine.execRdMaxCapacity s
  | .rdRoomSetpoint => Sys2Proof.Machine.execRdRoomSetpoint s
  | .rdRelMod => Sys2Proof.Machine.execRdRelMod s
  | .rdChPressure => Sys2Proof.Machine.execRdChPressure s
  | .rdDhwFlow => Sys2Proof.Machine.execRdDhwFlow s
  | .rdDaytime => Sys2Proof.Machine.execRdDaytime s
  | .rdDate => Sys2Proof.Machine.execRdDate s
  | .rdYear => Sys2Proof.Machine.execRdYear s
  | .rdRoomTemp => Sys2Proof.Machine.execRdRoomTemp s
  | .rdBoilerTemp => Sys2Proof.Machine.execRdBoilerTemp s
  | .rdDhwTemp => Sys2Proof.Machine.execRdDhwTemp s
  | .rdOutsideTemp => Sys2Proof.Machine.execRdOutsideTemp s
  | .rdReturnTemp => Sys2Proof.Machine.execRdReturnTemp s
  | .rdExhaustTemp => Sys2Proof.Machine.execRdExhaustTemp s
  | .rdDhwBounds => Sys2Proof.Machine.execRdDhwBounds s
  | .rdChBounds => Sys2Proof.Machine.execRdChBounds s
  | .rdDhwSetpoint => Sys2Proof.Machine.execRdDhwSetpoint s
  | .rdMaxChSetpoint => Sys2Proof.Machine.execRdMaxChSetpoint s
  | .rdOemDiag => Sys2Proof.Machine.execRdOemDiag s
  | .rdCounter116 => Sys2Proof.Machine.execRdCounter116 s
  | .rdCounter117 => Sys2Proof.Machine.execRdCounter117 s
  | .rdCounter118 => Sys2Proof.Machine.execRdCounter118 s
  | .rdCounter119 => Sys2Proof.Machine.execRdCounter119 s
  | .rdCounter120 => Sys2Proof.Machine.execRdCounter120 s
  | .rdCounter121 => Sys2Proof.Machine.execRdCounter121 s
  | .rdCounter122 => Sys2Proof.Machine.execRdCounter122 s
  | .rdCounter123 => Sys2Proof.Machine.execRdCounter123 s
  | .rdOtVersion => Sys2Proof.Machine.execRdOtVersion s
  | .rdVersion125 => Sys2Proof.Machine.execRdVersion125 s
  | .rdVersion126 => Sys2Proof.Machine.execRdVersion126 s
  | .rdVersion127 => Sys2Proof.Machine.execRdVersion127 s
  | .frameReadData parity spare dataId dataValue => Sys2Proof.Machine.execFrameReadData parity spare dataId dataValue s
  | .frameWriteData parity spare dataId dataValue => Sys2Proof.Machine.execFrameWriteData parity spare dataId dataValue s
  | .frameInvalidData parity spare dataId dataValue => Sys2Proof.Machine.execFrameInvalidData parity spare dataId dataValue s
  | .frameReserved parity spare dataId dataValue => Sys2Proof.Machine.execFrameReserved parity spare dataId dataValue s
  | .frameReadAck parity spare dataId dataValue => Sys2Proof.Machine.execFrameReadAck parity spare dataId dataValue s
  | .frameWriteAck parity spare dataId dataValue => Sys2Proof.Machine.execFrameWriteAck parity spare dataId dataValue s
  | .frameDataInvalid parity spare dataId dataValue => Sys2Proof.Machine.execFrameDataInvalid parity spare dataId dataValue s
  | .frameUnknownDataid parity spare dataId dataValue => Sys2Proof.Machine.execFrameUnknownDataid parity spare dataId dataValue s

end Sys2Proof.Machine
end

