-- ==== Sys2Proof/Machine/Fetch.lean ====
section
/-! DEFINITION. Which agent moves next and what it does (R17, R243): the host issues a command, the engine performs
one loop body, or the outside world reads `OUT` or resets the block. The block fetches nothing from a memory
(R67): commands arrive over the host port (R20) and frames over the transport port (R31). -/

namespace Sys2Proof.Machine

/-- What a step does: run an instruction on a state, or a step that is no instruction. -/
inductive Action where
  | run (i : Instr) (s : State)
  | done (o : Host.Outcome State Fault Refusal)

/-- A packet is presented to the block. A request with an unassigned selector gets no reply and changes no state
(R101); any other byte string that is no request cannot be presented (R21, U12). -/
def presentPacket (p : Packet) (s : State) : Action :=
  match decode p with
  | .ok i => .run i s
  | .error (.unassignedSelector _) => .done (.next s)
  | .error e => .done (.refused (.notPresentable e))

/-- With nothing coming from outside, the engine polls on while a transaction is in flight (R235), its answers free
(R54); in `Idle` the block has no step (R243), and nothing changes (log 19). -/
def stepWithoutInput (s : State) : State :=
  match s.fsm with
  | .idle => s
  | .awaitingResponse => iterateFree s

/-- The move of the agent whose turn it is. A host that waits for its reply (R21) keeps its request back while a
transaction is in flight, and the engine polls. -/
def nextAction (s : State) : Action :=
  match s.inputs with
  | [] => .done (.next (stepWithoutInput s))
  | .request true bytes :: _ =>
    match s.fsm with
    | .idle => presentPacket (.request bytes) s.popInput
    | .awaitingResponse => .done (.next (iterateFree s))
  | .request false bytes :: _ => presentPacket (.request bytes) s.popInput
  | .wire f :: _ => presentPacket (.wire f) s.popInput
  | .poll answer :: _ => .done (.next (iterate answer s.popInput))
  | .readOut :: _ => .done (.next (hostReadOut s.popInput))
  | .reset :: _ => .done (.next s.popInput.resetBlock)

/-- The outside world's move that presents a packet at once. -/
def inputOfPacket (p : Packet) : Input :=
  match p with
  | .request bytes => .request false bytes
  | .wire f => .wire f

end Sys2Proof.Machine
end

