-- ==== Sys2Proof/Machine/Step.lean ====
section
/-! DEFINITION. One step of the machine, and the placing of an instruction where the next step takes it. -/

namespace Sys2Proof.Machine

/-- What an action does. -/
def perform : Action → Host.Outcome State Fault Refusal
  | .run i s => exec i s
  | .done o => o

/-- One step: the move of the agent whose turn it is (R243). -/
def step (s : State) : Host.Outcome State Fault Refusal := perform (nextAction s)

/-- The state in which the very next step runs the instruction of these bits: a host presents the request, or the
transport delivers the frame (log 17). -/
def State.withFetchWord (s : State) (nbits w : Nat) : State :=
  { s with inputs := inputOfPacket (packetOfTableWord nbits w) :: s.inputs }

end Sys2Proof.Machine
end

