-- ==== Sys2Proof/Safety.lean ====
section
/-! DEFINITION. What counts as a safe run, in the terms claims use: the outside world keeps to the ports' types (R21,
R384), and the block's own registers keep their meaning. -/

namespace Sys2Proof.Machine

/-- The move can be presented in any state: a request's bytes are a request of the port or carry an unassigned
selector, which the block drops (R101). A read of `OUT` always can: one that comes too early is the host's own fault (R33, R384
item 3) and is recorded so. -/
def Input.presentable : Input → Bool
  | .request _ [] => false
  | .request _ (op :: bs) => (operandWidths op).isNone || requestWellFormed (op :: bs)
  | .wire _ => true
  | .poll _ => true
  | .readOut => true
  | .reset => true

/-- The next move of the outside world can be presented. -/
def State.inputSafe (s : State) : Bool :=
  match s.inputs with
  | [] => true
  | i :: _ => i.presentable

/-- A step that goes on. -/
def State.goesOn (s : State) : Prop := ∃ t, step s = .next t

/-- The selector of an instruction that is a command (R100). -/
def selectorOf (i : Instr) : Option Byte :=
  match encode i with
  | .request (op :: _) => some op
  | _ => none

/-- The typed writes by selector (R100, R329): the data-id each one writes. -/
def writeIds : List (Byte × Byte) :=
  [(0x50#8, 1#8), (0x51#8, 16#8), (0x52#8, 56#8), (0x53#8, 57#8), (0x54#8, 0#8), (0x55#8, 20#8), (0x56#8, 21#8),
   (0x57#8, 22#8)]

/-- `x` is what a command that starts a transaction (R232) latches when it transmits `request`: `XACT` sends its
operand (R230); the read of id `d`, whose selector is `0x80 + d` (R101), sends `BLDRD(d)` and decodes with the
registry's decoder (R260, R95); a write sends a WRITE-DATA frame of even parity to its id (R320). -/
def startedBy (x : XCmd) (request : Frame) : Bool :=
  match x.finish with
  | .replyFrame => match x.cmd with
    | .xact r _ => decide (r = request)
    | _ => false
  | .store d => registry.any fun row =>
      decide (row.2 = d) && decide (buildRead row.1 = request) && decide (selectorOf x.cmd = some (0x80#8 + row.1))
  | .acknowledge => writeIds.any fun row =>
      decide (selectorOf x.cmd = some row.1) && decide (frameDataId request = row.2)
        && decide (frameMsgType request = MsgType.writeData.code) && decide (frameSpare request = 0#4)
        && evenParity request

/-- While a transaction is in flight its registers hold it (R28): `XREQ` is the frame transmitted last (R232, R242),
and `XCMD` is the command it belongs to. -/
def TransactionHeld (s : State) : Prop :=
  s.fsm = .awaitingResponse → s.sent.head? = some s.xreq ∧ startedBy s.xcmd s.xreq = true

/-- The construction parameter is legal (R8: "at least 1"). -/
def ParametersLegal (s : State) : Prop := 1 ≤ s.pollMs

/-! ### Words that statements are written in -/

/-- The number of bits of `v` that are 1: `popcount` of R10, counted bit by bit. -/
def setBits {w : Nat} (v : BitVec w) : Nat := (List.range w).countP fun i => v.getLsbD i

/-- `as_s16` of R161 as a number: `v` below 0x8000, `v - 65536` from there on. -/
def signed16 (v : BitVec 16) : Int := if v.toNat < 0x8000 then v.toNat else (v.toNat : Int) - 65536

/-- The integer nearest to `y` between 0 and `y`: rounding toward zero (R164, R167). -/
def towardZero (y : ℚ) : Int := if 0 ≤ y then ⌊y⌋ else ⌈y⌉

/-- A command that the block refuses while a transaction is in flight (R231): in R100's table the engine commands are
those with a selector from 0x40 on. -/
def engineCommand (i : Instr) : Bool :=
  match selectorOf i with
  | some op => decide (0x40 ≤ op.toNat)
  | none => false

/-- A pure command (R100's class P): a selector below 0x40. -/
def pureCommand (i : Instr) : Bool :=
  match selectorOf i with
  | some op => decide (op.toNat < 0x40)
  | none => false

/-- A command that needs a transaction (R232): in R100's table `XACT` and the selectors from 0x50 on. -/
def startsTransaction (i : Instr) : Bool :=
  match selectorOf i with
  | some op => decide (op = 0x40#8 ∨ 0x50 ≤ op.toNat)
  | none => false

/-- The timeout of the transaction a command starts (R230): `XACT`'s operand, for every other command `TIMEOUT`. -/
def timeoutOf (i : Instr) (s : State) : Millis :=
  match i with
  | .xact _ m => m
  | _ => s.timeout

/-- The reply of a command whose transaction ended with `Ok(f)` (R351): `XACT` replies the frame. -/
def okAnswer (i : Instr) (f : Frame) : Answer :=
  match i with
  | .xact _ _ => .ok (.frame f)
  | _ => .ok .none

/-- `f` is the frame in the answer of the poll that the next step makes: a scripted answer, a frame on the line, or,
where nothing is scripted or the host waits, the free answer (log 4, log 5, log 18). -/
def State.receives (s : State) (f : Frame) : Prop :=
  (∃ c rest, s.inputs = .poll (some c) :: rest ∧ manchesterDecode c = .ok f) ∨
  (∃ rest, s.inputs = .wire f :: rest) ∨
  ((s.inputs = [] ∨ ∃ bytes rest, s.inputs = .request true bytes :: rest) ∧
    ∃ c, Config.rxAnswer s.fresh = some c ∧ manchesterDecode c = .ok f)

/-- The state after one reply, nothing else changed. -/
def State.replied (s : State) (cmd : Instr) (a : Answer) : State := { s with replies := ⟨cmd, a⟩ :: s.replies }

/-- The state after one reading of the time base at `now` (R352), nothing else changed. -/
def State.readAt (s : State) (now : Nat) : State :=
  { s with clock := now, delays := s.delays.tail, fresh := if s.delays.isEmpty then s.fresh + 1 else s.fresh }

/-- The state R232 describes, with the time base read at `now`: the transaction registers hold the transaction, the
request has gone to the transport once, and nothing else changed. -/
def State.started (s : State) (x : XCmd) (request : Frame) (timeout : Millis) (now : Nat) : State :=
  { s.readAt now with
    fsm := .awaitingResponse
    xreq := request
    xtmo := timeout
    xt0 := BitVec.ofNat 32 now
    xcmd := x
    sent := request :: s.sent }

/-- The state R238 and R351 describe when the transaction ends with `Ok(f)`, by how its command completes. -/
def State.succeeded (s : State) (f : Frame) : State :=
  match s.xcmd.finish with
  | .replyFrame => { s with fsm := .idle, replies := ⟨s.xcmd.cmd, .ok (.frame f)⟩ :: s.replies }
  | .store d =>
    { s with fsm := .idle, out := decodeFor d f, outWritten := true, replies := ⟨s.xcmd.cmd, .ok .none⟩ :: s.replies }
  | .acknowledge => { s with fsm := .idle, replies := ⟨s.xcmd.cmd, .ok .none⟩ :: s.replies }

/-- The state R239 describes. -/
def State.timedOut (s : State) : State :=
  { s with fsm := .idle, replies := ⟨s.xcmd.cmd, .err .timedOut⟩ :: s.replies }

/-- The elapsed time of R240 at the reading `now`, in milliseconds. -/
def State.elapsed (s : State) (now : Nat) : Nat := (BitVec.ofNat 32 now - s.xt0).toNat

/-- The answer of a poll is no response the engine accepts: nothing, or a capture that does not decode to a frame with
an even number of set bits (R237). -/
def failing (answer : Option Capture) : Prop :=
  ∀ c f, answer = some c → manchesterDecode c = .ok f → setBits f % 2 = 1

/-- The engine's steps on these answers of `RxPoll()`, one after the other (R235). -/
def polls (answers : List (Option Capture)) (s : State) : State := answers.foldl (fun s a => iterate a s) s

/-- A typed read of R261 to R298: the command, its selector, the request word it transmits, its decoder. -/
structure ReadRow where
  cmd : Instr
  selector : Byte
  request : Frame
  decoder : Decoder
deriving DecidableEq, Repr

/-- The 38 typed reads as R261 to R298 and the table of R100 give them. -/
def readRows : List ReadRow :=
  [⟨.rdStatus, 0x80#8, 0x00000000#32, .status⟩, ⟨.rdControlSetpoint, 0x81#8, 0x80010000#32, .f88⟩,
   ⟨.rdMasterConfig, 0x82#8, 0x80020000#32, .masterConfig⟩, ⟨.rdSlaveConfig, 0x83#8, 0x00030000#32, .slaveConfig⟩,
   ⟨.rdFault, 0x85#8, 0x00050000#32, .fault⟩, ⟨.rdRemoteParams, 0x86#8, 0x00060000#32, .remoteParams⟩,
   ⟨.rdMaxRelMod, 0x8E#8, 0x800E0000#32, .f88⟩, ⟨.rdMaxCapacity, 0x8F#8, 0x000F0000#32, .u8u8⟩,
   ⟨.rdRoomSetpoint, 0x90#8, 0x80100000#32, .f88⟩, ⟨.rdRelMod, 0x91#8, 0x00110000#32, .f88⟩,
   ⟨.rdChPressure, 0x92#8, 0x00120000#32, .f88⟩, ⟨.rdDhwFlow, 0x93#8, 0x80130000#32, .f88⟩,
   ⟨.rdDaytime, 0x94#8, 0x00140000#32, .time⟩, ⟨.rdDate, 0x95#8, 0x80150000#32, .date⟩,
   ⟨.rdYear, 0x96#8, 0x80160000#32, .u16⟩, ⟨.rdRoomTemp, 0x98#8, 0x00180000#32, .f88⟩,
   ⟨.rdBoilerTemp, 0x99#8, 0x80190000#32, .f88⟩, ⟨.rdDhwTemp, 0x9A#8, 0x801A0000#32, .f88⟩,
   ⟨.rdOutsideTemp, 0x9B#8, 0x001B0000#32, .f88⟩, ⟨.rdReturnTemp, 0x9C#8, 0x801C0000#32, .f88⟩,
   ⟨.rdExhaustTemp, 0xA1#8, 0x00210000#32, .s16⟩, ⟨.rdDhwBounds, 0xB0#8, 0x00300000#32, .u8u8⟩,
   ⟨.rdChBounds, 0xB1#8, 0x80310000#32, .u8u8⟩, ⟨.rdDhwSetpoint, 0xB8#8, 0x80380000#32, .f88⟩,
   ⟨.rdMaxChSetpoint, 0xB9#8, 0x00390000#32, .f88⟩, ⟨.rdOemDiag, 0xF3#8, 0x80730000#32, .u16⟩,
   ⟨.rdCounter116, 0xF4#8, 0x00740000#32, .u16⟩, ⟨.rdCounter117, 0xF5#8, 0x80750000#32, .u16⟩,
   ⟨.rdCounter118, 0xF6#8, 0x80760000#32, .u16⟩, ⟨.rdCounter119, 0xF7#8, 0x00770000#32, .u16⟩,
   ⟨.rdCounter120, 0xF8#8, 0x00780000#32, .u16⟩, ⟨.rdCounter121, 0xF9#8, 0x80790000#32, .u16⟩,
   ⟨.rdCounter122, 0xFA#8, 0x807A0000#32, .u16⟩, ⟨.rdCounter123, 0xFB#8, 0x007B0000#32, .u16⟩,
   ⟨.rdOtVersion, 0xFC#8, 0x807C0000#32, .f88⟩, ⟨.rdVersion125, 0xFD#8, 0x007D0000#32, .u8u8⟩,
   ⟨.rdVersion126, 0xFE#8, 0x007E0000#32, .u8u8⟩, ⟨.rdVersion127, 0xFF#8, 0x807F0000#32, .u8u8⟩]

end Sys2Proof.Machine
end

