-- ==== Sys2Proof/Certificates/Slice0/Obligations.lean ====
section
/-! DEFINITION. The statements for the provers. Where one rests on a choice of the model or on a decision the spec marks
as its own, its docstring says so and names the log entry or the decision. -/

open Sys2Proof Sys2Proof.Machine

/-! ### Encoding -/

/-- Every instruction, with every value of every operand, is what the decoder reads from its packet: the selector of
R100 and the operand fields, or the frame word of R80. The order and the bytes of the operands of a host request are the
model's choice (log 2). -/
def Obligations.DecodeOfEncodeIsTheInstruction : Prop :=
  ∀ i : Instr, decode (encode i) = .ok i

/-- Whatever packet the decoder accepts is the packet of the instruction it reads: no two packets mean one instruction
and no bit of a packet is ignored. The byte layout of a host request is the model's choice (log 2). -/
def Obligations.EncodeOfDecodeIsThePacket : Prop :=
  ∀ (p : Packet) (i : Instr), decode p = .ok i → encode i = p

/-- The decoder accepts exactly the well-formed byte strings: an assigned selector and operand fields of exactly the
widths of R100 (R21: an operand of another width cannot be presented). The byte layout is the model's choice (log 2). -/
def Obligations.RequestDecodesIffWellFormed : Prop :=
  ∀ bytes : List Byte, (∃ i, decode (.request bytes) = .ok i) ↔ requestWellFormed bytes = true

/-- A selector outside the ranges and registered data-ids of R101 is refused without a reply and without a change of any
state (the move of the host is taken from the list of moves still to come, log 4), and no selector inside them is. The
selectors are the spec's own decision D2; that a request begins with its selector byte is the model's choice (log 2). -/
def Obligations.UnassignedSelectorChangesNothing : Prop :=
  ∀ (op : Byte) (bytes : List Byte) (s : State) (rest : List Input),
    (op.toNat ∈ [0x01, 0x02, 0x03, 0x04, 0x05, 0x10, 0x11, 0x20, 0x21, 0x22, 0x23, 0x24, 0x30, 0x31, 0x32, 0x33, 0x34,
        0x35, 0x36, 0x37, 0x38, 0x39, 0x3A, 0x3B, 0x3C, 0x3D, 0x40, 0x41, 0x50, 0x51, 0x52, 0x53, 0x54, 0x55, 0x56, 0x57]
      ∨ (∃ row ∈ registry, op.toNat = 0x80 + row.1.toNat) →
      decode (.request (op :: bytes)) ≠ .error (.unassignedSelector op)) ∧
    (¬(op.toNat ∈ [0x01, 0x02, 0x03, 0x04, 0x05, 0x10, 0x11, 0x20, 0x21, 0x22, 0x23, 0x24, 0x30, 0x31, 0x32, 0x33, 0x34,
        0x35, 0x36, 0x37, 0x38, 0x39, 0x3A, 0x3B, 0x3C, 0x3D, 0x40, 0x41, 0x50, 0x51, 0x52, 0x53, 0x54, 0x55, 0x56, 0x57]
      ∨ ∃ row ∈ registry, op.toNat = 0x80 + row.1.toNat) →
      s.inputs = .request false (op :: bytes) :: rest → step s = .next { s with inputs := rest })

/-- Every 32-bit word is a frame (R80): the bits 31, 30:28, 27:24, 23:16 and 15:0 are its parity, message type, spare,
data-id and data value, and the message type selects the row of the opcode table. The codes 0 to 7 of the eight names are
the spec's decision D4. -/
def Obligations.MessageTypeSelectsTheFrameRow : Prop :=
  ∀ (p : Bool) (sp : BitVec 4) (d : Byte) (v : DataValue),
    decode (.wire (BitVec.ofBool p ++ 0b000#3 ++ sp ++ d ++ v)) = .ok (.frameReadData p sp d v) ∧
    decode (.wire (BitVec.ofBool p ++ 0b001#3 ++ sp ++ d ++ v)) = .ok (.frameWriteData p sp d v) ∧
    decode (.wire (BitVec.ofBool p ++ 0b010#3 ++ sp ++ d ++ v)) = .ok (.frameInvalidData p sp d v) ∧
    decode (.wire (BitVec.ofBool p ++ 0b011#3 ++ sp ++ d ++ v)) = .ok (.frameReserved p sp d v) ∧
    decode (.wire (BitVec.ofBool p ++ 0b100#3 ++ sp ++ d ++ v)) = .ok (.frameReadAck p sp d v) ∧
    decode (.wire (BitVec.ofBool p ++ 0b101#3 ++ sp ++ d ++ v)) = .ok (.frameWriteAck p sp d v) ∧
    decode (.wire (BitVec.ofBool p ++ 0b110#3 ++ sp ++ d ++ v)) = .ok (.frameDataInvalid p sp d v) ∧
    decode (.wire (BitVec.ofBool p ++ 0b111#3 ++ sp ++ d ++ v)) = .ok (.frameUnknownDataid p sp d v)

/-- A few words decode to the instruction they stand for. Three are frame words with the fields of R80 and the message
type codes of R82 (the spec's decision D4). The others are selectors of R100 (the spec's decision D2), of which 0x00 is
unassigned (R101). The spec gives the operands of a request no bits, so two clauses rest on the model's choice (log 2): that
of `BLDRD`, whose operand byte 25 follows the selector, and that of `SETTMO`, whose operand bytes, to which the table gives
no bits, read as zeros. That a frame word is read as an instruction of its row is the model's choice too (log 1). -/
def Obligations.SampleWordsDecode : Prop :=
  decodeTableWord 32 0xC0193A80 = some (.frameReadAck true 0#4 25#8 0x3A80#16) ∧
  decodeTableWord 32 0x90014180 = some (.frameWriteData true 0#4 1#8 0x4180#16) ∧
  decodeTableWord 32 0x70010000 = some (.frameUnknownDataid false 0#4 1#8 0#16) ∧
  decodeTableWord 8 0x99 = some .rdBoilerTemp ∧
  decodeTableWord 16 0x1904 = some (.bldrd 25#8) ∧
  decodeTableWord 8 0x41 = some (.settmo 0#32) ∧
  decodeTableWord 8 0x00 = none

/-! ### The step -/

/-- A step runs the decoded instruction: on the state whose next move presents the packet, with that move taken. A host
that keeps the discipline of R21 (log 18) has its request run so in `Idle`. What `withFetchWord` places
is run as it is (the model's choice, log 17); the byte layout of a host request is the model's choice (log 2). -/
def Obligations.StepRunsTheDecodedInstruction : Prop :=
  ∀ (s : State) (i : Instr) (rest : List Input),
    (∀ p, decode p = .ok i → s.inputs = inputOfPacket p :: rest → step s = exec i { s with inputs := rest }) ∧
    (∀ bytes, decode (.request bytes) = .ok i → s.fsm = .idle → s.inputs = .request true bytes :: rest →
      step s = exec i { s with inputs := rest }) ∧
    (∀ nbits w, decodeTableWord nbits w = some i → step (s.withFetchWord nbits w) = exec i s)

/-- The steps that run no instruction: a scripted poll is one step of the engine; a host that keeps the discipline of
R21 waits while the engine polls; with no move to come the engine polls on with free answers while a transaction is in
flight, and in `Idle` nothing happens. Which agent moves next is the model's own data (log 4, log 5, log 18, log 19). -/
def Obligations.StepWithoutInstruction : Prop :=
  ∀ (s : State) (rest : List Input),
    (∀ a, s.inputs = .poll a :: rest → step s = .next (iterate a { s with inputs := rest })) ∧
    (∀ bytes, s.fsm = .awaitingResponse → s.inputs = .request true bytes :: rest →
      step s = .next (iterate (Config.rxAnswer s.fresh) { s with fresh := s.fresh + 1 })) ∧
    (s.inputs = [] → s.fsm = .awaitingResponse →
      step s = .next (iterate (Config.rxAnswer s.fresh) { s with fresh := s.fresh + 1 })) ∧
    (s.inputs = [] → s.fsm = .idle → step s = .next s)

/-- The host's read of `OUT` finds the value of the last successful `RD_*` command (R29); before there is one it is
recorded as the host's own fault with any value, of which nothing is said (R33's decision D27, U11). Either way the block
goes on and nothing of it changes. That what was read is kept, and the counter of free values, are the model's (log 8,
log 10, log 13). -/
def Obligations.HostReadOfOut : Prop :=
  ∀ (s : State) (rest : List Input), s.inputs = .readOut :: rest →
    (s.outWritten = true → step s = .next { s with inputs := rest, reads := .value s.out :: s.reads }) ∧
    (s.outWritten = false →
      ∃ v, step s = .next { s with inputs := rest, fresh := s.fresh + 1, reads := .tooEarly v :: s.reads })

/-- A run stops only where the outside world breaks the port's rules: if the next move can be presented, the step goes
on, whatever the state. No error of the block stops it (R347), nor does a host that reads `OUT` too early (log 10). That
bytes which are no request stop the step is the model's reading of R21 (log 3). -/
def Obligations.SafeInputNeverStops : Prop :=
  ∀ s : State, s.inputSafe = true → s.goesOn

/-! ### FrameCodec -/

/-- `PACK` (R121): the frame whose fields are the operands, spare 0, and whose bit 31 is set exactly when an odd number
of the 31 bits below it is. Nothing else of the machine changes. -/
def Obligations.PackRepliesTheFrame : Prop :=
  ∀ (m : BitVec 3) (d : Byte) (v : DataValue) (s : State), selectorOf (.pack m d v) = some 0x01#8 ∧
    ∃ f : Frame, exec (.pack m d v) s = .next { s with replies := ⟨.pack m d v, .ok (.frame f)⟩ :: s.replies } ∧
      f.extractLsb' 0 31 = (m ++ 0b0000#4 ++ d ++ v : BitVec 31) ∧
      f.getLsbD 31 = decide (setBits (f.extractLsb' 0 31) % 2 = 1)

/-- `UNPACK` (R122): the five fields as they stand in the word; nothing is checked and nothing else changes. -/
def Obligations.UnpackRepliesTheFields : Prop :=
  ∀ (f : Frame) (s : State), selectorOf (.unpack f) = some 0x02#8 ∧
    exec (.unpack f) s = .next { s with replies :=
      ⟨.unpack f, .ok (.fields ⟨f.getLsbD 31, f.extractLsb' 28 3, f.extractLsb' 24 4, f.extractLsb' 16 8,
        f.extractLsb' 0 16⟩)⟩ :: s.replies }

/-- `VPAR` (R123): 1 exactly when the number of set bits among all 32 is even. Nothing else changes. -/
def Obligations.VparRepliesEvenParity : Prop :=
  ∀ (f : Frame) (s : State), selectorOf (.vpar f) = some 0x03#8 ∧
    exec (.vpar f) s = .next { s with replies := ⟨.vpar f, .ok (.bit (decide (setBits f % 2 = 0)))⟩ :: s.replies }

/-- `BLDRD` (R124): `PACK(0, data_id, 0)`, the number `data_id * 65536`, plus 0x80000000 when `popcount(data_id)` is
odd. Nothing else changes. -/
def Obligations.BldrdRepliesTheReadRequest : Prop :=
  ∀ (d : Byte) (s : State), selectorOf (.bldrd d) = some 0x04#8 ∧
    ∃ f : Frame, exec (.bldrd d) s = .next { s with replies := ⟨.bldrd d, .ok (.frame f)⟩ :: s.replies } ∧
      exec (.pack 0#3 d 0#16) s = .next { s with replies := ⟨.pack 0#3 d 0#16, .ok (.frame f)⟩ :: s.replies } ∧
      f.toNat = d.toNat * 65536 + (if setBits d % 2 = 1 then 0x80000000 else 0)

/-- `BLDWR` (R125): `PACK(1, data_id, value)`: message type 1, spare 0, the id and the value in their fields, and an even
number of set bits. Nothing else changes. -/
def Obligations.BldwrRepliesTheWriteRequest : Prop :=
  ∀ (d : Byte) (v : DataValue) (s : State), selectorOf (.bldwr d v) = some 0x05#8 ∧
    ∃ f : Frame, exec (.bldwr d v) s = .next { s with replies := ⟨.bldwr d v, .ok (.frame f)⟩ :: s.replies } ∧
      exec (.pack 1#3 d v) s = .next { s with replies := ⟨.pack 1#3 d v, .ok (.frame f)⟩ :: s.replies } ∧
      f.toNat % 0x80000000 = 0x10000000 + d.toNat * 65536 + v.toNat ∧ setBits f % 2 = 0

/-- The three laws of R127: round trip, parity correctness, and detection of every single flipped bit. -/
def Obligations.PackUnpackParityLaws : Prop :=
  ∀ (m : BitVec 3) (d : Byte) (v : DataValue),
    unpackFrame (packFrame m d v) = ⟨parity31 (m ++ 0#4 ++ d ++ v), m, 0#4, d, v⟩ ∧
    evenParity (packFrame m d v) = true ∧
    ∀ i < 32, evenParity (packFrame m d v ^^^ (1#32 <<< i)) = false

/-- The further laws of R128, which the spec marks as derived: which words `PACK` gives back, that parity detects
exactly the error patterns with an odd number of bits, and that a word and its complement agree. -/
def Obligations.ParityDetectsOddErrorPatterns : Prop :=
  ∀ w e : Frame,
    (packFrame (unpackFrame w).msgType (unpackFrame w).dataId (unpackFrame w).dataValue = w ↔
      w.extractLsb' 24 4 = 0#4 ∧ evenParity w = true) ∧
    (evenParity (w ^^^ e) = evenParity w ↔ setBits e % 2 = 0) ∧
    evenParity (~~~w) = evenParity w

/-! ### ManchesterCodec -/

/-- `MDEC` (R141), with sample `s[i]` of R53 as bit `67 - i` of the capture: bad framing is `InvalidFraming` whatever the
data pairs are (R342); with good framing an invalid data pair is `InvalidEncoding` (R343); otherwise the frame whose bit
`32 - k` is the first sample of pair `k`. Nothing else changes, also on error. -/
def Obligations.MdecDecodesOrNamesTheError : Prop :=
  ∀ (c : Capture) (s : State), selectorOf (.mdec c) = some 0x10#8 ∧
    (¬(c.getLsbD 67 = true ∧ c.getLsbD 66 = false ∧ c.getLsbD 1 = true ∧ c.getLsbD 0 = false) →
      exec (.mdec c) s = .next { s with replies := ⟨.mdec c, .err .invalidFraming⟩ :: s.replies }) ∧
    (c.getLsbD 67 = true ∧ c.getLsbD 66 = false ∧ c.getLsbD 1 = true ∧ c.getLsbD 0 = false →
      (∃ k, 1 ≤ k ∧ k ≤ 32 ∧ c.getLsbD (67 - 2 * k) = c.getLsbD (66 - 2 * k)) →
      exec (.mdec c) s = .next { s with replies := ⟨.mdec c, .err .invalidEncoding⟩ :: s.replies }) ∧
    (c.getLsbD 67 = true ∧ c.getLsbD 66 = false ∧ c.getLsbD 1 = true ∧ c.getLsbD 0 = false →
      (∀ k, 1 ≤ k → k ≤ 32 → c.getLsbD (67 - 2 * k) ≠ c.getLsbD (66 - 2 * k)) →
      ∃ f : Frame, exec (.mdec c) s = .next { s with replies := ⟨.mdec c, .ok (.frame f)⟩ :: s.replies } ∧
        ∀ k, 1 ≤ k → k ≤ 32 → f.getLsbD (32 - k) = c.getLsbD (67 - 2 * k))

/-- `MENC` (R146): the start and the stop pair are (1,0), and pair `k` is frame bit `32 - k` and its inverse. Nothing
else changes. -/
def Obligations.MencRepliesTheCapture : Prop :=
  ∀ (f : Frame) (s : State), selectorOf (.menc f) = some 0x11#8 ∧
    ∃ c : Capture, exec (.menc f) s = .next { s with replies := ⟨.menc f, .ok (.capture c)⟩ :: s.replies } ∧
      c.getLsbD 67 = true ∧ c.getLsbD 66 = false ∧ c.getLsbD 1 = true ∧ c.getLsbD 0 = false ∧
      ∀ k, 1 ≤ k → k ≤ 32 →
        c.getLsbD (67 - 2 * k) = f.getLsbD (32 - k) ∧ c.getLsbD (66 - 2 * k) = !f.getLsbD (32 - k)

/-- The round trip of R147, and its converse, which the spec marks as derived: a capture that decodes is the capture of
its frame. -/
def Obligations.ManchesterRoundTrip : Prop :=
  ∀ (w : Frame) (c : Capture),
    manchesterDecode (manchesterEncode w) = .ok w ∧ (manchesterDecode c = .ok w → c = manchesterEncode w)

/-- The detection properties of R148, which the spec marks as derived: one wrong sample is always detected; both samples
of a data pair flip that frame bit unseen by decode; two such pairs flip two bits and parity cannot see it; both samples
of the start or stop pair are bad framing. -/
def Obligations.SampleErrorsAreDetectedByPair : Prop :=
  ∀ w : Frame,
    (∀ i < 68, manchesterDecode (manchesterEncode w ^^^ (1#68 <<< (67 - i))) =
      .error (if i = 0 ∨ i = 1 ∨ i = 66 ∨ i = 67 then .invalidFraming else .invalidEncoding)) ∧
    (∀ k, 1 ≤ k → k ≤ 32 →
      manchesterDecode (manchesterEncode w ^^^ (3#68 <<< (66 - 2 * k))) = .ok (w ^^^ (1#32 <<< (32 - k)))) ∧
    (∀ j k, 1 ≤ j → j < k → k ≤ 32 →
      manchesterDecode (manchesterEncode w ^^^ (3#68 <<< (66 - 2 * j)) ^^^ (3#68 <<< (66 - 2 * k))) =
          .ok (w ^^^ (1#32 <<< (32 - j)) ^^^ (1#32 <<< (32 - k))) ∧
        evenParity (w ^^^ (1#32 <<< (32 - j)) ^^^ (1#32 <<< (32 - k))) = evenParity w) ∧
    manchesterDecode (manchesterEncode w ^^^ (3#68 <<< 66)) = .error .invalidFraming ∧
    manchesterDecode (manchesterEncode w ^^^ 3#68) = .error .invalidFraming

/-! ### Numeric data values -/

/-- `F88TOF` (R163): a binary32 number whose value is exactly `as_s16(v) / 256` (R162). That 0 gives +0.0 is the note
'from general knowledge' of R163 (log 14). Nothing else changes. -/
def Obligations.F88tofIsExact : Prop :=
  ∀ (v : DataValue) (s : State), selectorOf (.f88tof v) = some 0x20#8 ∧
    ∃ x : F32, exec (.f88tof v) s = .next { s with replies := ⟨.f88tof v, .ok (.typed (.f32 x))⟩ :: s.replies } ∧
      f32Value x = some ((signed16 v : ℚ) / 256) ∧ (v = 0#16 → x = 0#32)

/-- `F88FROMF` where its result is specified (R164, R167): for a finite `x` with `-32769 < x * 256 < 32768` the result, as
`as_s16`, is `x * 256` truncated toward zero. Nothing else changes. -/
def Obligations.F88fromfTruncatesTowardZero : Prop :=
  ∀ (x : F32) (q : ℚ) (s : State), f32Value x = some q → -32769 < q * 256 → q * 256 < 32768 →
    selectorOf (.f88fromf x) = some 0x21#8 ∧
    ∃ v : DataValue,
      exec (.f88fromf x) s = .next { s with replies := ⟨.f88fromf x, .ok (.typed (.u16 v))⟩ :: s.replies } ∧
      signed16 v = towardZero (q * 256)

/-- `F88FROMF` of NaN, an infinity or a number outside the range (R168, decision D19): the command completes with some
value, of which nothing is said; the counter of free values moves on (log 8). Nothing else changes. -/
def Obligations.F88fromfUnspecifiedStillCompletes : Prop :=
  ∀ (x : F32) (s : State), (∀ q, f32Value x = some q → q * 256 ≤ -32769 ∨ 32768 ≤ q * 256) →
    ∃ v : DataValue, exec (.f88fromf x) s =
      .next { s with replies := ⟨.f88fromf x, .ok (.typed (.u16 v))⟩ :: s.replies, fresh := s.fresh + 1 }

/-- The round-trip law of R166, both halves: every 16-bit value comes back; and converting a number with a specified
result (R164: finite, `-32769 < x * 256 < 32768`) there and back is truncation to a multiple of 1/256, which is `x` exactly
when `x * 256` is an integer. -/
def Obligations.F88RoundTrip : Prop :=
  (∀ v : DataValue, f88FromFloat (f88ToFloat v) = some v) ∧
  ∀ (x : F32) (q : ℚ), f32Value x = some q → -32769 < q * 256 → q * 256 < 32768 →
    ∃ v : DataValue, f88FromFloat x = some v ∧
      f32Value (f88ToFloat v) = some ((towardZero (q * 256) : ℚ) / 256) ∧
      (f32Value (f88ToFloat v) = some q ↔ ∃ n : ℤ, q * 256 = n)

/-- `GETU16`, `GETS16`, `GETF88` (R170, R171, R172): the low 16 bits, as an unsigned number, as a two's-complement number,
and through `F88TOF`; the upper 16 bits never matter. Nothing else changes. -/
def Obligations.GettersReadTheLowSixteenBits : Prop :=
  ∀ (f : Frame) (s : State),
    selectorOf (.getu16 f) = some 0x22#8 ∧ selectorOf (.gets16 f) = some 0x23#8 ∧
    selectorOf (.getf88 f) = some 0x24#8 ∧
    (∃ v : DataValue, exec (.getu16 f) s = .next { s with replies := ⟨.getu16 f, .ok (.typed (.u16 v))⟩ :: s.replies } ∧
      v.toNat = f.toNat % 65536) ∧
    (∃ i : Int, exec (.gets16 f) s = .next { s with replies := ⟨.gets16 f, .ok (.typed (.s16 i))⟩ :: s.replies } ∧
      i = if f.toNat % 65536 < 0x8000 then ((f.toNat % 65536 : Nat) : Int) else ((f.toNat % 65536 : Nat) : Int) - 65536) ∧
    ∃ x : F32, exec (.getf88 f) s = .next { s with replies := ⟨.getf88 f, .ok (.typed (.f32 x))⟩ :: s.replies } ∧
      exec (.f88tof (BitVec.ofNat 16 (f.toNat % 65536))) s = .next { s with replies :=
        ⟨.f88tof (BitVec.ofNat 16 (f.toNat % 65536)), .ok (.typed (.f32 x))⟩ :: s.replies }

/-! ### Record data values -/

/-- The byte pairs of R190, R191, R202 and R203 as numbers: the high byte is `v / 256`, the low byte `v mod 256`, and the
encoders give `hb * 256 + lb`. Nothing else changes. -/
def Obligations.BytePairsAndDates : Prop :=
  ∀ (v : DataValue) (hb lb : Byte) (s : State),
    selectorOf (.decu8u8 v) = some 0x30#8 ∧ selectorOf (.encu8u8 hb lb) = some 0x31#8 ∧
    selectorOf (.decdate v) = some 0x3C#8 ∧ selectorOf (.encdate ⟨hb, lb⟩) = some 0x3D#8 ∧
    (∃ h l : Byte,
      exec (.decu8u8 v) s = .next { s with replies := ⟨.decu8u8 v, .ok (.typed (.bytes h l))⟩ :: s.replies } ∧
      exec (.decdate v) s = .next { s with replies := ⟨.decdate v, .ok (.typed (.date ⟨h, l⟩))⟩ :: s.replies } ∧
      h.toNat = v.toNat / 256 ∧ l.toNat = v.toNat % 256) ∧
    ∃ w : DataValue,
      exec (.encu8u8 hb lb) s = .next { s with replies := ⟨.encu8u8 hb lb, .ok (.typed (.u16 w))⟩ :: s.replies } ∧
      exec (.encdate ⟨hb, lb⟩) s =
        .next { s with replies := ⟨.encdate ⟨hb, lb⟩, .ok (.typed (.u16 w))⟩ :: s.replies } ∧
      w.toNat = hb.toNat * 256 + lb.toNat

/-- The record decoders by selector and bit by bit (R192, R194, R195, R197, R199, R200). The selectors are the spec's
decision D2; the bit positions of Status, Config, Fault and
Time and the form of RemoteParams are the spec's decisions D13 to D17 (log 15). Nothing else changes. -/
def Obligations.RecordDecodersReadTheirBits : Prop :=
  ∀ (v : DataValue) (s : State),
    selectorOf (.decstatus v) = some 0x32#8 ∧ selectorOf (.decmcfg v) = some 0x34#8 ∧
    selectorOf (.decscfg v) = some 0x35#8 ∧ selectorOf (.decfault v) = some 0x37#8 ∧
    selectorOf (.decrp v) = some 0x39#8 ∧ selectorOf (.dectime v) = some 0x3A#8 ∧
    exec (.decstatus v) s = .next { s with replies := ⟨.decstatus v, .ok (.typed (.status
      { chEnable := v.getLsbD 8, dhwEnable := v.getLsbD 9, coolingEnable := v.getLsbD 10, otcActive := v.getLsbD 11,
        ch2Enable := v.getLsbD 12, fault := v.getLsbD 0, chMode := v.getLsbD 1, dhwMode := v.getLsbD 2,
        flame := v.getLsbD 3, cooling := v.getLsbD 4, ch2Mode := v.getLsbD 5, diagnostic := v.getLsbD 6 }))⟩
      :: s.replies } ∧
    (∃ r : ConfigFlags,
      r = { dhwPresent := v.getLsbD 8, controlType := v.getLsbD 9, coolingConfig := v.getLsbD 10,
            dhwConfig := v.getLsbD 11, masterPumpControl := v.getLsbD 12, ch2Present := v.getLsbD 13 } ∧
      exec (.decmcfg v) s = .next { s with replies := ⟨.decmcfg v, .ok (.typed (.config r))⟩ :: s.replies } ∧
      exec (.decscfg v) s = .next { s with replies := ⟨.decscfg v, .ok (.typed (.config r))⟩ :: s.replies }) ∧
    (∃ code : Byte, code.toNat = v.toNat / 256 ∧
      exec (.decfault v) s = .next { s with replies := ⟨.decfault v, .ok (.typed (.fault
        { oemFaultCode := code, serviceRequest := v.getLsbD 0, lockoutReset := v.getLsbD 1,
          lowWaterPressure := v.getLsbD 2, gasFlameFault := v.getLsbD 3, airPressureFault := v.getLsbD 4,
          waterOvertemp := v.getLsbD 5 }))⟩ :: s.replies }) ∧
    (∃ te rw : Byte, te.toNat = v.toNat / 256 ∧ rw.toNat = v.toNat % 256 ∧
      exec (.decrp v) s = .next { s with replies := ⟨.decrp v, .ok (.typed (.remoteParams ⟨te, rw⟩))⟩ :: s.replies }) ∧
    (∃ (dow : BitVec 3) (hour : BitVec 5) (minute : BitVec 6),
      dow.toNat = v.toNat / 8192 ∧ hour.toNat = v.toNat / 256 % 32 ∧ minute.toNat = v.toNat % 64 ∧
      exec (.dectime v) s =
        .next { s with replies := ⟨.dectime v, .ok (.typed (.time ⟨dow, hour, minute⟩))⟩ :: s.replies })

/-- The record encoders by selector and as numbers (R193, R196, R198, R201): each field times the weight of its lowest
bit, unused bits 0. The selectors are the spec's decision D2, the bit positions are the spec's decisions D13 to D17, the zeros its decision D18 (log 15). Nothing else changes. -/
def Obligations.RecordEncodersPlaceTheirBits : Prop :=
  ∀ (r : Status) (c : ConfigFlags) (fa : FaultFlags) (tm : TimeOfDay) (s : State),
    selectorOf (.encstatus r) = some 0x33#8 ∧ selectorOf (.enccfg c) = some 0x36#8 ∧
    selectorOf (.encfault fa) = some 0x38#8 ∧ selectorOf (.enctime tm) = some 0x3B#8 ∧
    (∃ w : DataValue,
      exec (.encstatus r) s = .next { s with replies := ⟨.encstatus r, .ok (.typed (.u16 w))⟩ :: s.replies } ∧
      w.toNat = r.fault.toNat + 2 * r.chMode.toNat + 4 * r.dhwMode.toNat + 8 * r.flame.toNat + 16 * r.cooling.toNat
        + 32 * r.ch2Mode.toNat + 64 * r.diagnostic.toNat + 256 * r.chEnable.toNat + 512 * r.dhwEnable.toNat
        + 1024 * r.coolingEnable.toNat + 2048 * r.otcActive.toNat + 4096 * r.ch2Enable.toNat) ∧
    (∃ w : DataValue,
      exec (.enccfg c) s = .next { s with replies := ⟨.enccfg c, .ok (.typed (.u16 w))⟩ :: s.replies } ∧
      w.toNat = 256 * c.dhwPresent.toNat + 512 * c.controlType.toNat + 1024 * c.coolingConfig.toNat
        + 2048 * c.dhwConfig.toNat + 4096 * c.masterPumpControl.toNat + 8192 * c.ch2Present.toNat) ∧
    (∃ w : DataValue,
      exec (.encfault fa) s = .next { s with replies := ⟨.encfault fa, .ok (.typed (.u16 w))⟩ :: s.replies } ∧
      w.toNat = 256 * fa.oemFaultCode.toNat + fa.serviceRequest.toNat + 2 * fa.lockoutReset.toNat
        + 4 * fa.lowWaterPressure.toNat + 8 * fa.gasFlameFault.toNat + 16 * fa.airPressureFault.toNat
        + 32 * fa.waterOvertemp.toNat) ∧
    (∃ w : DataValue,
      exec (.enctime tm) s = .next { s with replies := ⟨.enctime tm, .ok (.typed (.u16 w))⟩ :: s.replies } ∧
      w.toNat = 8192 * tm.dayOfWeek.toNat + 256 * tm.hour.toNat + tm.minute.toNat)

/-- The round trip of R204: decoding what was encoded gives the record back, for every value of every field. -/
def Obligations.RecordRoundTrip : Prop :=
  (∀ r, decodeStatus (encodeStatus r) = r) ∧
  (∀ r, decodeMasterConfig (encodeConfig r) = r ∧ decodeSlaveConfig (encodeConfig r) = r) ∧
  (∀ r, decodeFault (encodeFault r) = r) ∧
  (∀ r, decodeTime (encodeTime r) = r) ∧
  (∀ r, decodeDate (encodeDate r) = r) ∧
  ∀ hb lb, decodeU8U8 (encodeU8U8 hb lb) = (hb, lb)

/-- The unused bits of R205: encoding what was decoded keeps exactly the bits of the masks. Zeros in the unused bits are
the spec's decision D18 (log 15). -/
def Obligations.UnusedBitsAreDropped : Prop :=
  ∀ v : DataValue,
    encodeStatus (decodeStatus v) = v &&& 0x1F7F#16 ∧
    encodeConfig (decodeMasterConfig v) = v &&& 0x3F00#16 ∧
    encodeConfig (decodeSlaveConfig v) = v &&& 0x3F00#16 ∧
    encodeFault (decodeFault v) = v &&& 0xFF3F#16 ∧
    encodeTime (decodeTime v) = v &&& 0xFF3F#16 ∧
    encodeDate (decodeDate v) = v ∧
    encodeU8U8 (decodeU8U8 v).1 (decodeU8U8 v).2 = v

/-! ### Host commands and the state -/

/-- A pure command depends on its operands only and changes nothing but the reply (R20; usable in either state of `FSM`
by decision D12): it has one answer for all states. The one exception is an `F88FROMF` whose result the spec leaves
unspecified (R168; log 8). -/
def Obligations.PureCommandsDependOnOperandsOnly : Prop :=
  ∀ i : Instr, pureCommand i = true → (∀ x, i = .f88fromf x → f88FromFloat x ≠ none) →
    ∃ a : Answer, ∀ s : State, exec i s = .next { s with replies := ⟨i, a⟩ :: s.replies }

/-- `Busy` (R345): an engine command presented while `FSM = AwaitingResponse` is replied `Err(Busy)` and does nothing
else. -/
def Obligations.EngineCommandsAreRefusedWhileBusy : Prop :=
  ∀ (i : Instr) (s : State), engineCommand i = true → s.fsm = .awaitingResponse →
    exec i s = .next { s with replies := ⟨i, .err .busy⟩ :: s.replies }

/-- `XACT` accepted in `Idle` starts its transaction in one step (R232): the operands are latched, the request word goes
to the transport once, unchanged and unchecked, the time base is read (right after the hand-off, decision D9), `FSM`
becomes `AwaitingResponse`, and nothing else changes. -/
def Obligations.XactStartsTheTransaction : Prop :=
  ∀ (r : Frame) (m : Millis) (s : State), s.fsm = .idle → selectorOf (.xact r m) = some 0x40#8 ∧
    ∃ now, s.clock ≤ now ∧ exec (.xact r m) s = .next (s.started ⟨.xact r m, .replyFrame⟩ r m now)

/-- `SETTMO` accepted in `Idle` (R245): `TIMEOUT` becomes the operand, the reply is `Ok`, nothing else changes. The width
and the unit of the operand are the spec's decision D7. -/
def Obligations.SettmoWritesTimeout : Prop :=
  ∀ (ms : Millis) (s : State), s.fsm = .idle → selectorOf (.settmo ms) = some 0x41#8 ∧
    exec (.settmo ms) s = .next { s with timeout := ms, replies := ⟨.settmo ms, .ok .none⟩ :: s.replies }

/-- Each of the 38 typed reads, accepted in `Idle`, starts the transaction of its fixed request word with the timeout in
`TIMEOUT` (R260, R261 to R298, R232), keeps its decoder for the completion, and changes nothing else: `OUT` is as it was.
That the reading of the time base follows the hand-off is decision D9. -/
def Obligations.TypedReadsTransmitTheirRequest : Prop :=
  ∀ row ∈ readRows, ∀ s : State, s.fsm = .idle → selectorOf row.cmd = some row.selector ∧
    ∃ now, s.clock ≤ now ∧
      exec row.cmd s = .next (s.started ⟨row.cmd, .store row.decoder⟩ row.request s.timeout now)

/-- `WR_DAYTIME`, `WR_DATE`, `WR_YEAR` and `WR_CH_DHW_ENABLE`, accepted in `Idle`, start the transaction of a WRITE-DATA
request (message type 1, spare 0, an even number of set bits) to ids 20, 21, 22 and 0 with the encoded operand (R320,
R325 to R328), and change nothing else. What `WR_CH_DHW_ENABLE` sends is the spec's decision D25, the place of the day
D17, the reading of the time base D9. -/
def Obligations.TypedWritesTransmitTheirRequest : Prop :=
  ∀ (tm : TimeOfDay) (da : CalendarDate) (y : DataValue) (ch dhw : Bool) (s : State), s.fsm = .idle →
    ∀ row ∈ [(Instr.wrDaytime tm, 0x55#8, 20#8, 8192 * tm.dayOfWeek.toNat + 256 * tm.hour.toNat + tm.minute.toNat),
        (Instr.wrDate da, 0x56#8, 21#8, 256 * da.month.toNat + da.day.toNat),
        (Instr.wrYear y, 0x57#8, 22#8, y.toNat),
        (Instr.wrChDhwEnable ch dhw, 0x54#8, 0#8, 256 * ch.toNat + 512 * dhw.toNat)],
      selectorOf row.1 = some row.2.1 ∧
      ∃ (w : Frame) (now : Nat), s.clock ≤ now ∧
        exec row.1 s = .next (s.started ⟨row.1, .acknowledge⟩ w s.timeout now) ∧
        w.extractLsb' 28 3 = 1#3 ∧ w.extractLsb' 24 4 = 0#4 ∧ w.extractLsb' 16 8 = row.2.2.1 ∧
        (w.extractLsb' 0 16).toNat = row.2.2.2 ∧ setBits w % 2 = 0

/-- The four setpoint writes, accepted in `Idle` with an operand whose f8.8 value is specified, start the transaction of
a WRITE-DATA request to ids 1, 16, 56 and 57 whose value is the operand times 256 truncated toward zero (R320, R321 to
R324, R164), and change nothing else. The reading of the time base after the hand-off is decision D9. -/
def Obligations.SetpointWritesTransmitTheTruncatedValue : Prop :=
  ∀ (t : F32) (q : ℚ) (s : State), s.fsm = .idle → f32Value t = some q → -32769 < q * 256 → q * 256 < 32768 →
    ∀ row ∈ [(Instr.wrControlSetpoint t, 0x50#8, 1#8), (Instr.wrRoomSetpoint t, 0x51#8, 16#8),
        (Instr.wrDhwSetpoint t, 0x52#8, 56#8), (Instr.wrMaxChSetpoint t, 0x53#8, 57#8)],
      selectorOf row.1 = some row.2.1 ∧
      ∃ (w : Frame) (now : Nat), s.clock ≤ now ∧
        exec row.1 s = .next (s.started ⟨row.1, .acknowledge⟩ w s.timeout now) ∧
        w.extractLsb' 28 3 = 1#3 ∧ w.extractLsb' 24 4 = 0#4 ∧ w.extractLsb' 16 8 = row.2.2 ∧
        signed16 (w.extractLsb' 0 16) = towardZero (q * 256) ∧ setBits w % 2 = 0

/-- A setpoint write whose value R168 leaves unspecified (decision D19) still transmits exactly one WRITE-DATA frame for
its id, with some value (R320, R402); the counter of free values moves on before the reading of the time base (log 8). -/
def Obligations.SetpointWritesOutOfRangeStillTransmit : Prop :=
  ∀ (t : F32) (s : State), s.fsm = .idle → (∀ q, f32Value t = some q → q * 256 ≤ -32769 ∨ 32768 ≤ q * 256) →
    ∀ row ∈ [(Instr.wrControlSetpoint t, 1#8), (Instr.wrRoomSetpoint t, 16#8), (Instr.wrDhwSetpoint t, 56#8),
        (Instr.wrMaxChSetpoint t, 57#8)],
      ∃ (w : Frame) (now : Nat), s.clock ≤ now ∧
        exec row.1 s =
          .next (State.started { s with fresh := s.fresh + 1 } ⟨row.1, .acknowledge⟩ w s.timeout now) ∧
        w.extractLsb' 28 3 = 1#3 ∧ w.extractLsb' 24 4 = 0#4 ∧ w.extractLsb' 16 8 = row.2 ∧ setBits w % 2 = 0

/-! ### The engine -/

/-- Success (R238): a poll that returns a capture which decodes to a frame with an even number of set bits ends the
transaction with `Ok` at once, whatever the frame's type, id, spare and value are and whatever the time is: `XACT`
replies the frame, a typed read stores its decoding in `OUT`, a typed write drops it (R351). The poll's answer is the next
move of the outside world (log 4). That the transaction registers keep their contents after the end is the model's choice
(log 11): R28 and R350 say that they become meaningless. -/
def Obligations.ValidCaptureEndsTheTransaction : Prop :=
  ∀ (s : State) (c : Capture) (f : Frame) (rest : List Input), s.fsm = .awaitingResponse →
    s.inputs = .poll (some c) :: rest → manchesterDecode c = .ok f → setBits f % 2 = 0 →
    step s = .next (State.succeeded { s with inputs := rest } f)

/-- A poll without an acceptable response (R235, R237, R239, R240, R236): nothing, or a capture that does not decode or
has odd parity, leaves no trace; the time base is read once, and if the elapsed time modulo 2^32 exceeds `XTMO` the
transaction ends with `TimedOut`; otherwise the engine sleeps `POLL_INTERVAL_MS`. Nothing else changes. The modular
comparison is decision D6; that the sleep adds exactly its least length and any more is part of the next reading is the
model's form of R236 (log 6). That a transaction that times out leaves its registers as they are is the model's choice
(log 11): R350 says that they become meaningless. -/
def Obligations.FailedPollChecksTheWindow : Prop :=
  ∀ (s : State) (a : Option Capture) (rest : List Input), s.fsm = .awaitingResponse → s.inputs = .poll a :: rest →
    failing a →
    ∃ now, s.clock ≤ now ∧ step s = .next
      (if s.elapsed now > s.xtmo.toNat then (State.readAt { s with inputs := rest } now).timedOut
       else { State.readAt { s with inputs := rest } now with clock := now + s.pollMs })

/-- A frame of any of the eight message types with an even number of set bits, arriving while a transaction is in
flight, is accepted as the response (R238, R82): its type, data-id, spare and value are not examined. That a frame row
of the opcode table is the engine's poll of that frame is the model's choice (log 1), and so is that the transaction
registers keep their contents after the end (log 11; R28: meaningless); the type codes are decision D4. -/
def Obligations.EvenFramesOfEveryTypeAreAccepted : Prop :=
  ∀ (p : Bool) (sp : BitVec 4) (d : Byte) (v : DataValue) (s : State), s.fsm = .awaitingResponse →
    ∀ row ∈ [(Instr.frameReadData p sp d v, 0#3), (.frameWriteData p sp d v, 1#3), (.frameInvalidData p sp d v, 2#3),
        (.frameReserved p sp d v, 3#3), (.frameReadAck p sp d v, 4#3), (.frameWriteAck p sp d v, 5#3),
        (.frameDataInvalid p sp d v, 6#3), (.frameUnknownDataid p sp d v, 7#3)],
      setBits (BitVec.ofBool p ++ row.2 ++ sp ++ d ++ v) % 2 = 0 →
      exec row.1 s = .next (s.succeeded (BitVec.ofBool p ++ row.2 ++ sp ++ d ++ v))

/-- A frame with an odd number of set bits is as good as silence (R237, `ParityError`), and a frame that arrives in
`Idle` is not consumed and changes nothing (R243). That a frame row is the engine's poll of it is the model's choice
(log 1); R243 is marked derived in the spec. -/
def Obligations.OddFramesAreSilenceAndIdleIgnoresFrames : Prop :=
  ∀ (p : Bool) (sp : BitVec 4) (d : Byte) (v : DataValue) (s : State),
    ∀ row ∈ [(Instr.frameReadData p sp d v, 0#3), (.frameWriteData p sp d v, 1#3), (.frameInvalidData p sp d v, 2#3),
        (.frameReserved p sp d v, 3#3), (.frameReadAck p sp d v, 4#3), (.frameWriteAck p sp d v, 5#3),
        (.frameDataInvalid p sp d v, 6#3), (.frameUnknownDataid p sp d v, 7#3)],
      (s.fsm = .awaitingResponse → setBits (BitVec.ofBool p ++ row.2 ++ sp ++ d ++ v) % 2 = 1 →
        exec row.1 s = .next (iterate none s)) ∧
      (s.fsm = .idle → exec row.1 s = .next s)

/-- A whole transaction of each typed read: accepted in `Idle` and answered at the first poll by any frame of even
parity, it replies `Ok` with the registry's decoding of that frame in `OUT` and `FSM` is `Idle` again (R260, R238); the
frame is not compared with the request (decision D26). The decodings are those of R95's column "decoder". That the transaction
registers keep their contents after the end is the model's choice (log 11; R28: meaningless). -/
def Obligations.TypedReadDeliversTheDecodedFrame : Prop :=
  ∀ row ∈ readRows, ∀ (s t : State) (f : Frame), s.fsm = .idle → setBits f % 2 = 0 → exec row.cmd s = .next t →
    iterate (some (manchesterEncode f)) t =
      { t with
        fsm := .idle
        out := match row.decoder with
          | .status => .status (decodeStatus (f.extractLsb' 0 16))
          | .masterConfig => .config (decodeMasterConfig (f.extractLsb' 0 16))
          | .slaveConfig => .config (decodeSlaveConfig (f.extractLsb' 0 16))
          | .fault => .fault (decodeFault (f.extractLsb' 0 16))
          | .remoteParams => .remoteParams (decodeRemoteParams (f.extractLsb' 0 16))
          | .time => .time (decodeTime (f.extractLsb' 0 16))
          | .date => .date (decodeDate (f.extractLsb' 0 16))
          | .u8u8 => .bytes (f.extractLsb' 8 8) (f.extractLsb' 0 8)
          | .u16 => .u16 (f.extractLsb' 0 16)
          | .s16 => .s16 (signed16 (f.extractLsb' 0 16))
          | .f88 => .f32 (f88ToFloat (f.extractLsb' 0 16))
        outWritten := true
        replies := ⟨row.cmd, .ok .none⟩ :: s.replies }

/-- One malformed capture followed by a valid response still gives `Ok` (R247 b, R360 b): if the window is open at the
check after the malformed one, the second poll ends the transaction with `Ok` and nothing of the first shows but the
time it took. The reading of that check is given as the scripted delay `d` (log 6). That the transaction registers keep
their contents after the end is the model's choice (log 11; R28: meaningless). -/
def Obligations.MalformedThenValidSucceeds : Prop :=
  ∀ (s : State) (bad good : Capture) (f : Frame) (d : Nat) (ds : List Nat), s.fsm = .awaitingResponse →
    failing (some bad) → manchesterDecode good = .ok f → setBits f % 2 = 0 → s.delays = d :: ds →
    s.elapsed (s.clock + d) ≤ s.xtmo.toNat →
    polls [some bad, some good] s = State.succeeded { s with clock := s.clock + d + s.pollMs, delays := ds } f

/-- With `XTMO = 2^32 - 1` the window never runs out (R244, marked derived in the spec): however the polls fail, the
transaction stays in flight and nothing is replied or transmitted. -/
def Obligations.LargestTimeoutNeverTimesOut : Prop :=
  ∀ (as : List (Option Capture)) (s : State), s.fsm = .awaitingResponse → s.xtmo = 0xFFFFFFFF#32 →
    (∀ a ∈ as, failing a) →
    (polls as s).fsm = .awaitingResponse ∧ (polls as s).replies = s.replies ∧ (polls as s).sent = s.sent

/-- One send, bounded window, one outcome (R242), for every command that starts a transaction: `XACT`, the 38 typed reads
and the 8 typed writes. From its acceptance on, whatever the polls return, its request is transmitted exactly once,
before the first poll, and the transaction is still in flight with no reply, or has ended with exactly one reply to that
command: `TimedOut`, or the `Ok` of a frame with an even number of set bits that one of the polls returned. -/
def Obligations.OneSendOneOutcome : Prop :=
  ∀ (i : Instr) (s t : State) (as : List (Option Capture)), startsTransaction i = true → s.fsm = .idle →
    exec i s = .next t →
    t.fsm = .awaitingResponse ∧ t.xtmo = timeoutOf i s ∧ t.replies = s.replies ∧ t.sent = t.xreq :: s.sent ∧
    (polls as t).sent = t.xreq :: s.sent ∧
    (((polls as t).fsm = .awaitingResponse ∧ (polls as t).replies = s.replies) ∨
     ((polls as t).fsm = .idle ∧ ∃ a, (polls as t).replies = ⟨i, a⟩ :: s.replies ∧
       (a = .err .timedOut ∨
        ∃ c f, some c ∈ as ∧ manchesterDecode c = .ok f ∧ setBits f % 2 = 0 ∧ a = okAnswer i f)))

/-- A transaction makes at most `floor(XTMO / POLL_INTERVAL_MS) + 2` polls (R241, marked derived in the spec), whichever
command started it (R230: `XTMO` is `XACT`'s operand, otherwise `TIMEOUT`): whatever the polls return, after that many
the transaction has ended, provided the true elapsed time is still below 2^32 ms. -/
def Obligations.TransactionEndsWithinThePollBound : Prop :=
  ∀ (i : Instr) (s t : State) (as : List (Option Capture)), startsTransaction i = true → s.fsm = .idle →
    ParametersLegal s → exec i s = .next t → as.length = (timeoutOf i s).toNat / s.pollMs + 2 →
    (polls as t).clock < t.clock + 0x100000000 → (polls as t).fsm = .idle

/-- The time of the timeout when sleeps are exact and nothing else takes time (R241, marked derived in the spec; R247 a,
R360 a), whichever command started the transaction: with failing polls only, it is in flight after `n` polls exactly
when `(n - 1) * POLL_INTERVAL_MS` does not exceed `XTMO`, and the deciding check is made at the first multiple of the
interval beyond it. Exact time is the premise that the scripted delays are 0 (log 6). -/
def Obligations.ExactSleepTimesOutAtTheFirstMultiple : Prop :=
  ∀ (i : Instr) (s t : State) (as : List (Option Capture)) (n : Nat), startsTransaction i = true → s.fsm = .idle →
    ParametersLegal s → s.delays = List.replicate (n + 1) 0 → exec i s = .next t → as.length = n →
    (∀ a ∈ as, failing a) → n * s.pollMs < 0x100000000 →
    ((polls as t).fsm = .awaitingResponse ↔ n = 0 ∨ (n - 1) * s.pollMs ≤ (timeoutOf i s).toNat) ∧
    ((polls as t).fsm = .awaitingResponse → (polls as t).clock = t.clock + n * s.pollMs) ∧
    ((polls as t).fsm = .idle →
      (polls as t).clock = t.clock + ((timeoutOf i s).toNat / s.pollMs + 1) * s.pollMs ∧
      (polls as t).replies = ⟨i, .err .timedOut⟩ :: s.replies)

/-! ### The whole machine -/

/-- Reset (R33): `FSM = Idle`, `TIMEOUT = 1000`, and `OUT` holds no value yet. That nothing has been sent, replied or
read and nothing is to come, and the values of the transaction registers, are the model's (log 9, log 10, log 13). -/
def Obligations.ResetValues : Prop :=
  State.reset.fsm = .idle ∧ State.reset.fsm.code = 0#1 ∧ State.reset.timeout = 1000#32 ∧
  State.reset.outWritten = false ∧ State.reset.sent = [] ∧ State.reset.replies = [] ∧
  State.reset.reads = []

/-- The reset event in a running block: `FSM` and `TIMEOUT` take their reset values and `OUT` is unwritten again; a
transaction is abandoned without a reply, nothing is transmitted or recalled, and the time base runs on (R381; R382 and
R380 are the spec's decision D27; log 12). -/
def Obligations.ResetEventAbandonsTheTransaction : Prop :=
  ∀ (s : State) (rest : List Input), s.inputs = .reset :: rest →
    ∃ t, step s = .next t ∧ t.fsm = .idle ∧ t.timeout = 1000#32 ∧ t.outWritten = false ∧ t.sent = s.sent ∧
      t.replies = s.replies ∧ t.reads = s.reads ∧ t.clock = s.clock ∧ t.delays = s.delays ∧ t.fresh = s.fresh ∧
      t.pollMs = s.pollMs ∧ t.inputs = rest

/-- `FSM` has no transitions but those of R22: to `AwaitingResponse` exactly with the transmission of the request that
`XREQ` then holds, and back to `Idle` with exactly one reply to the command in `XCMD`, which is `Ok` or `TimedOut`, or by
the reset event (R382, decision D27; log 12). A frame is transmitted at no other moment (R242). -/
def Obligations.FsmTransitionsAndTransmissions : Prop :=
  ∀ s t : State, step s = .next t →
    (t.sent = s.sent ∨ (s.fsm = .idle ∧ t.fsm = .awaitingResponse ∧ t.sent = t.xreq :: s.sent)) ∧
    (s.fsm = .idle → t.fsm = .awaitingResponse → t.sent = t.xreq :: s.sent ∧ t.replies = s.replies) ∧
    (s.fsm = .awaitingResponse → t.fsm = .idle → t.sent = s.sent ∧
      ((∃ a, t.replies = ⟨s.xcmd.cmd, a⟩ :: s.replies ∧ (a = .err .timedOut ∨ ∃ v, a = .ok v)) ∨
       (t.replies = s.replies ∧ ∃ rest, s.inputs = .reset :: rest)))

/-- `TIMEOUT` is written only by `SETTMO` (R25) and by the reset event (log 12): when a step changes it, the step ran a
`SETTMO` of the new value in `Idle`, or was a reset, which gives 1000. -/
def Obligations.TimeoutIsWrittenOnlyBySettmo : Prop :=
  ∀ s t : State, step s = .next t → t.timeout ≠ s.timeout →
    (s.fsm = .idle ∧ ∃ waits bytes rest, s.inputs = .request waits bytes :: rest ∧
      decode (.request bytes) = .ok (.settmo t.timeout)) ∨
    (t.timeout = 1000#32 ∧ ∃ rest, s.inputs = .reset :: rest)

/-- `OUT` is written, whole, only by a successful `RD_*` command (R29): when a step changes `OUT` or whether it is
written, the step ended a typed read's transaction with `Ok` and stored the decoding of the accepted frame, which is the
frame that this step's poll returned and has an even number of set bits; or it was the reset event (log 12). A failed or
refused command leaves it exactly as it was. -/
def Obligations.OutIsWrittenOnlyBySuccessfulReads : Prop :=
  ∀ s t : State, step s = .next t → (t.out ≠ s.out ∨ t.outWritten ≠ s.outWritten) →
    (s.fsm = .awaitingResponse ∧ t.fsm = .idle ∧ t.outWritten = true ∧ t.replies = ⟨s.xcmd.cmd, .ok .none⟩ :: s.replies ∧
      ∃ d f, s.xcmd.finish = .store d ∧ s.receives f ∧ setBits f % 2 = 0 ∧ t.out = decodeFor d f) ∨
    (t.outWritten = false ∧ ∃ rest, s.inputs = .reset :: rest)

/-- A transaction keeps the timeout it latched (R399, marked derived in the spec; R231): while it is in flight no step
changes `XREQ`, `XT0`, `XTMO` or `XCMD`, whatever the host asks and the transport delivers. -/
def Obligations.TransactionRegistersHoldInFlight : Prop :=
  ∀ s t : State, step s = .next t → s.fsm = .awaitingResponse → t.fsm = .awaitingResponse →
    t.xreq = s.xreq ∧ t.xt0 = s.xt0 ∧ t.xtmo = s.xtmo ∧ t.xcmd = s.xcmd ∧ t.timeout = s.timeout ∧ t.out = s.out

/-- While a transaction is in flight the transaction registers hold it: `XREQ` is the frame transmitted last and `XCMD`
the command it belongs to with the right completion (R28, R232). Every step keeps this. -/
def Obligations.StepKeepsTransactionHeld : Prop :=
  ∀ s t : State, TransactionHeld s → step s = .next t → TransactionHeld t

/-- The construction parameter never changes, so it stays legal, and the time base never goes back (R8, R26, R352: the
monotone count is decision D6; log 6, log 7). -/
def Obligations.StepKeepsParametersAndTime : Prop :=
  ∀ s t : State, step s = .next t →
    t.pollMs = s.pollMs ∧ (ParametersLegal s → ParametersLegal t) ∧ s.clock ≤ t.clock

/-- Both invariants hold right after reset. -/
def Obligations.ResetMeetsTheInvariants : Prop :=
  TransactionHeld State.reset ∧ ParametersLegal State.reset

/-- A step gives at most one reply, and an error only to a command that can reply it (R359, marked derived in the spec):
`ParityError` never, `InvalidFraming` and `InvalidEncoding` from `MDEC` only, `TimedOut` and `Busy` to engine commands
only, and `TimedOut` never to `SETTMO`. The premise is the invariant of the transaction registers. -/
def Obligations.RepliesKeepTheVisibilityMatrix : Prop :=
  ∀ s t : State, TransactionHeld s → step s = .next t →
    t.replies = s.replies ∨ ∃ i a, t.replies = ⟨i, a⟩ :: s.replies ∧
      a ≠ .err .parityError ∧
      (a = .err .invalidFraming ∨ a = .err .invalidEncoding → ∃ c, i = .mdec c) ∧
      (a = .err .timedOut → engineCommand i = true ∧ ∀ ms, i ≠ .settmo ms) ∧
      (a = .err .busy → engineCommand i = true ∧ s.fsm = .awaitingResponse)
end

