-- ==== Sys2Proof/Laws/Bits.lean ====
section
/-! SUPPORT. The bit-level lemmas: the fields of a frame word, parity, and the samples of a capture. -/

namespace Sys2Proof.Machine

/-! ### The fields of a frame word (R80) -/

section FrameWord
variable (p : Bool) (m : BitVec 3) (sp : BitVec 4) (d : Byte) (v : DataValue)

/-- Bit by bit, the frame word is its fields, the data value lowest. -/
theorem getLsbD_frameWord (i : Nat) :
    (frameWord p m sp d v).getLsbD i =
      if i < 16 then v.getLsbD i else if i < 24 then d.getLsbD (i - 16) else if i < 28 then sp.getLsbD (i - 24)
      else if i < 31 then m.getLsbD (i - 28) else (i == 31 && p) := by
  have key : ∀ (a : BitVec 1) (x : BitVec 3) (y : BitVec 4) (z : BitVec 8) (w : BitVec 16),
      BitVec.getLsbD (a ++ x ++ y ++ z ++ w) i =
        if i < 16 then w.getLsbD i else if i < 24 then z.getLsbD (i - 16) else if i < 28 then y.getLsbD (i - 24)
        else if i < 31 then x.getLsbD (i - 28) else a.getLsbD (i - 31) := by
    intro a x y z w
    rw [BitVec.getLsbD_append, BitVec.getLsbD_append, BitVec.getLsbD_append, BitVec.getLsbD_append]
    simp only [Nat.sub_sub, Nat.reduceAdd]
    split_ifs <;> first | rfl | omega
  refine (key _ m sp d v).trans ?_
  have e : (BitVec.ofBool p).getLsbD (i - 31) = ((i - 31 == 0) && p) := by
    rw [BitVec.getLsbD_ofBool]; rfl
  split_ifs with h1 h2 h3 h4
  · rfl
  · rfl
  · rfl
  · rfl
  · rw [e]
    by_cases h : i = 31
    · simp [h]
    · rw [beq_eq_false_iff_ne.2 h, beq_eq_false_iff_ne.2 (show i - 31 ≠ 0 by omega)]

@[simp] theorem frameDataValue_frameWord : frameDataValue (frameWord p m sp d v) = v := by
  apply BitVec.eq_of_getLsbD_eq; intro i hi
  simp [frameDataValue, getLsbD_frameWord, hi]

@[simp] theorem frameDataId_frameWord : frameDataId (frameWord p m sp d v) = d := by
  apply BitVec.eq_of_getLsbD_eq; intro i hi
  simp [frameDataId, getLsbD_frameWord, hi, show ¬16 + i < 16 by omega, show 16 + i < 24 by omega]

@[simp] theorem frameSpare_frameWord : frameSpare (frameWord p m sp d v) = sp := by
  apply BitVec.eq_of_getLsbD_eq; intro i hi
  simp [frameSpare, getLsbD_frameWord, hi, show ¬24 + i < 16 by omega, show ¬24 + i < 24 by omega,
    show 24 + i < 28 by omega]

@[simp] theorem frameMsgType_frameWord : frameMsgType (frameWord p m sp d v) = m := by
  apply BitVec.eq_of_getLsbD_eq; intro i hi
  simp [frameMsgType, getLsbD_frameWord, hi, show ¬28 + i < 16 by omega, show ¬28 + i < 24 by omega,
    show ¬28 + i < 28 by omega, show 28 + i < 31 by omega]

@[simp] theorem frameParity_frameWord : frameParity (frameWord p m sp d v) = p := by
  rw [frameParity, getLsbD_frameWord]; simp

/-- A frame word is the word of its five fields. -/
theorem frameWord_fields (f : Frame) :
    frameWord (frameParity f) (frameMsgType f) (frameSpare f) (frameDataId f) (frameDataValue f) = f := by
  apply BitVec.eq_of_getLsbD_eq; intro i hi
  rw [getLsbD_frameWord]
  simp only [frameParity, frameMsgType, frameSpare, frameDataId, frameDataValue, BitVec.getLsbD_extractLsb']
  split_ifs with h1 h2 h3 h4
  · simp [h1]
  · simp [show i - 16 < 8 by omega, show 16 + (i - 16) = i by omega]
  · simp [show i - 24 < 4 by omega, show 24 + (i - 24) = i by omega]
  · simp [show i - 28 < 3 by omega, show 28 + (i - 28) = i by omega]
  · obtain rfl : i = 31 := by omega
    simp

end FrameWord

/-! ### Parity (R81, R126) -/

theorem popcountBelow_congr {w w' : Nat} {a : BitVec w} {b : BitVec w'} {k : Nat}
    (h : ∀ i < k, a.getLsbD i = b.getLsbD i) : popcountBelow a k = popcountBelow b k := by
  induction k with
  | zero => rfl
  | succ k ih => simp [popcountBelow, ih fun i hi => h i (by omega), h k (by omega)]

/-- Flipping bit `i` changes the number of set bits below `k > i` by one. -/
theorem popcountBelow_flip {w : Nat} {a b : BitVec w} {i k : Nat} (hi : i < k) (hb : b.getLsbD i = !a.getLsbD i)
    (h : ∀ j, j ≠ i → b.getLsbD j = a.getLsbD j) :
    (popcountBelow b k + popcountBelow a k) % 2 = 1 := by
  induction k with
  | zero => omega
  | succ k ih =>
    by_cases hk : i = k
    · subst hk
      have : popcountBelow b i = popcountBelow a i := popcountBelow_congr fun j hj => h j (by omega)
      cases ha : a.getLsbD i <;> simp_all [popcountBelow] <;> omega
    · have := ih (by omega)
      have hkk : b.getLsbD k = a.getLsbD k := h k (Ne.symm hk)
      simp only [popcountBelow, hkk]
      omega

/-- The word of a 31-bit body with bit 31 above it has as many set bits as the two together. -/
theorem popcount_ofBool_append (p : Bool) (body : BitVec 31) :
    popcount (BitVec.ofBool p ++ body : BitVec (1 + 31)) = p.toNat + popcount body := by
  have h : popcountBelow (BitVec.ofBool p ++ body : BitVec (1 + 31)) 31 = popcountBelow body 31 :=
    popcountBelow_congr fun i hi => by rw [BitVec.getLsbD_append, if_pos hi]
  change popcountBelow _ 31 + _ = _
  rw [h, BitVec.getLsbD_append]
  simp [popcount, Nat.add_comm]

/-! ### Samples of a capture (R86, R146) -/

/-- Below the pairs already placed, the capture under construction is zero; shifting places the next pair. -/
theorem getLsbD_shift_pair (c : Capture) (b : Bool) (i : Nat) (hi : i < 68) :
    (c <<< 2 ||| (pairSamples b).setWidth 68).getLsbD i =
      if i = 0 then !b else if i = 1 then b else c.getLsbD (i - 2) := by
  rcases i with _ | _ | i
  · cases b <;> simp [pairSamples]
  · cases b <;> simp [pairSamples]
  · have h : (pairSamples b).getLsbD (i + 1 + 1) = false := BitVec.getLsbD_of_ge _ _ (by omega)
    rw [BitVec.getLsbD_or, BitVec.getLsbD_shiftLeft, BitVec.getLsbD_setWidth, h]
    simp only [hi, decide_true, Bool.true_and, Bool.and_false, Bool.or_false]
    simp

/-- The pair `j` places from the right of the capture under construction: its samples are the bit and its inverse. -/
theorem getLsbD_encodePairs (f : Frame) (k j : Nat) (hk : k ≤ 32) (hj : j < k) :
    (encodePairs f k).getLsbD (2 * j + 1) = f.getLsbD (32 - k + j) ∧
    (encodePairs f k).getLsbD (2 * j) = !f.getLsbD (32 - k + j) := by
  induction k generalizing j with
  | zero => omega
  | succ k ih =>
    simp only [encodePairs]
    rw [getLsbD_shift_pair _ _ _ (by omega), getLsbD_shift_pair _ _ _ (by omega)]
    rcases j with _ | j
    · have : 32 - (k + 1) + 0 = 31 - k := by omega
      simp
    · have h := ih j (by omega) (by omega)
      have e : 32 - (k + 1) + (j + 1) = 32 - k + j := by omega
      have e1 : 2 * (j + 1) + 1 - 2 = 2 * j + 1 := by omega
      have e2 : 2 * (j + 1) - 2 = 2 * j := by omega
      rw [if_neg (by omega), if_neg (by omega), if_neg (by omega), if_neg (by omega), e, e1, e2]
      exact h

/-- The start pair stays (1,0) above the pairs placed after it. -/
theorem getLsbD_encodePairs_start (f : Frame) (k : Nat) (hk : k ≤ 32) :
    (encodePairs f k).getLsbD (2 * k + 1) = true ∧ (encodePairs f k).getLsbD (2 * k) = false := by
  induction k with
  | zero => simp [encodePairs, pairSamples]
  | succ k ih =>
    simp only [encodePairs]
    rw [getLsbD_shift_pair _ _ _ (by omega), getLsbD_shift_pair _ _ _ (by omega)]
    have e1 : 2 * (k + 1) + 1 - 2 = 2 * k + 1 := by omega
    have e2 : 2 * (k + 1) - 2 = 2 * k := by omega
    rw [if_neg (by omega), if_neg (by omega), if_neg (by omega), if_neg (by omega), e1, e2]
    exact ih (by omega)

/-- Every pair of `MENC f` (R146): start and stop are (1,0), data pair `k` carries bit `32 - k` and its inverse. -/
theorem capturePair_manchesterEncode (f : Frame) (k : Nat) (hk : k ≤ 33) :
    capturePair (manchesterEncode f) k =
      if k = 0 ∨ k = 33 then (true, false) else (f.getLsbD (32 - k), !f.getLsbD (32 - k)) := by
  simp only [capturePair, sample, manchesterEncode]
  rw [getLsbD_shift_pair _ _ _ (by omega), getLsbD_shift_pair _ _ _ (by omega)]
  by_cases h33 : k = 33
  · subst h33; simp
  rw [if_neg (by omega), if_neg (by omega), if_neg (by omega), if_neg (by omega)]
  by_cases h0 : k = 0
  · subst h0
    have := getLsbD_encodePairs_start f 32 le_rfl
    simpa using this
  · have h := getLsbD_encodePairs f 32 (32 - k) le_rfl (by omega)
    have e1 : 67 - 2 * k - 2 = 2 * (32 - k) + 1 := by omega
    have e2 : 67 - (2 * k + 1) - 2 = 2 * (32 - k) := by omega
    rw [e1, e2, h.1, h.2]
    simp [h0, h33]

/-- A capture is determined by its 34 pairs. -/
theorem capture_ext {c c' : Capture} (h : ∀ k ≤ 33, capturePair c k = capturePair c' k) : c = c' := by
  apply BitVec.eq_of_getLsbD_eq; intro i hi
  have := h ((67 - i) / 2) (by omega)
  simp only [capturePair, sample, Prod.mk.injEq] at this
  rcases Nat.even_or_odd' (67 - i) with ⟨j, hj | hj⟩
  · have e : 67 - 2 * ((67 - i) / 2) = i := by omega
    simpa [e] using this.1
  · have e : 67 - (2 * ((67 - i) / 2) + 1) = i := by omega
    simpa [e] using this.2

/-! ### Decoding the pairs (R141) -/

/-- What the data pairs 1 to `k` decode to: nothing but the bits the pairs carry, and only where all are valid. -/
theorem decodePairs_ok_iff (c : Capture) (k : Nat) (hk : k ≤ 32) (w : BitVec 32) :
    decodePairs c k = .ok w ↔
      (∀ j < k, pairBit (capturePair c (j + 1)) = some (w.getLsbD (k - 1 - j))) ∧ ∀ i, k ≤ i → w.getLsbD i = false := by
  induction k generalizing w with
  | zero =>
    simp only [decodePairs, Except.ok.injEq, Nat.not_lt_zero, false_implies, implies_true, true_and, Nat.zero_le]
    constructor
    · rintro rfl i; simp
    · intro h; apply BitVec.eq_of_getLsbD_eq; intro i _; simp [h i]
  | succ k ih =>
    constructor
    · intro h
      simp only [decodePairs] at h
      split at h
      · cases h
      · rename_i acc hacc
        split at h
        · cases h
        · rename_i b hb
          obtain ⟨h1, h2⟩ := (ih (by omega) acc).1 hacc
          cases h
          constructor
          · intro j hj
            by_cases hjk : j = k
            · subst hjk; simp [hb]
            · have e : k + 1 - 1 - j = (k - 1 - j) + 1 := by omega
              rw [h1 j (by omega), e]
              simp [show k - 1 - j + 1 < 32 by omega, BitVec.getLsbD_eq_getElem (show k - 1 - j < 32 by omega)]
          · intro i hi
            obtain ⟨i, rfl⟩ : ∃ i', i = i' + 1 := ⟨i - 1, by omega⟩
            simp [h2 i (by omega)]
    · rintro ⟨h1, h2⟩
      have hacc : decodePairs c k = .ok (w >>> 1) := by
        refine (ih (by omega) _).2 ⟨fun j hj => ?_, fun i hi => ?_⟩
        · rw [h1 j (by omega), show k + 1 - 1 - j = 1 + (k - 1 - j) by omega]
          simp
        · simp [h2 (1 + i) (by omega)]
      have hb := h1 k (by omega)
      simp only [Nat.add_sub_cancel, Nat.sub_self] at hb
      simp only [decodePairs, hacc, hb, Except.ok.injEq]
      apply BitVec.eq_of_getLsbD_eq; intro i hi
      rcases i with _ | i
      · simp
      · simp [hi, Nat.add_comm]

/-- The data pairs fail only with `InvalidEncoding` (R142). -/
theorem decodePairs_error {c : Capture} {k : Nat} {e : Err} (h : decodePairs c k = .error e) :
    e = .invalidEncoding := by
  induction k with
  | zero => cases h
  | succ k ih =>
    simp only [decodePairs] at h
    split at h
    · cases h; exact ih ‹_›
    · split at h
      · cases h; rfl
      · cases h

/-- The data pairs 1 to `k` fail exactly where one of them is no bit. -/
theorem decodePairs_error_iff (c : Capture) (k : Nat) :
    decodePairs c k = .error .invalidEncoding ↔ ∃ j < k, pairBit (capturePair c (j + 1)) = none := by
  induction k with
  | zero => simp [decodePairs]
  | succ k ih =>
    simp only [decodePairs]
    constructor
    · intro h
      split at h
      · rename_i e he
        cases h
        obtain ⟨j, hj, hn⟩ := ih.1 he
        exact ⟨j, by omega, hn⟩
      · split at h
        · exact ⟨k, by omega, ‹_›⟩
        · cases h
    · rintro ⟨j, hj, hn⟩
      split
      · rename_i e he; rw [decodePairs_error he]
      · rename_i acc hacc
        by_cases hjk : j = k
        · subst hjk; simp [hn]
        · rw [ih.2 ⟨j, by omega, hn⟩] at hacc; cases hacc

/-- `MDEC` with bad framing (R141 step 1, R342). -/
theorem manchesterDecode_framing {c : Capture}
    (h : capturePair c 0 ≠ (true, false) ∨ capturePair c 33 ≠ (true, false)) :
    manchesterDecode c = .error .invalidFraming := by
  simp only [manchesterDecode, if_pos h]

/-- `MDEC` with good framing is the data pairs (R141 step 2). -/
theorem manchesterDecode_framed {c : Capture} (h0 : capturePair c 0 = (true, false))
    (h33 : capturePair c 33 = (true, false)) : manchesterDecode c = decodePairs c 32 := by
  simp [manchesterDecode, h0, h33]

end Sys2Proof.Machine
end

