-- ==== Sys2Proof/Laws/Bytes.lean ====
section
/-! SUPPORT. The bytes of a host request: what reading a field gives, and that writing a field is its inverse. -/

namespace Sys2Proof

theorem putBytes_length (n v : Nat) : (putBytes n v).length = n := by
  induction n generalizing v with
  | zero => rfl
  | succ n ih => simp [putBytes, ih]

theorem readBytes_putBytes (n acc v : Nat) (rest : List Byte) :
    readBytes n acc (putBytes n v ++ rest) = some (acc * 256 ^ n + v % 256 ^ n, rest) := by
  induction n generalizing acc with
  | zero => simp [readBytes, putBytes, Nat.mod_one]
  | succ n ih =>
    simp only [putBytes, List.cons_append, readBytes, ih, BitVec.toNat_ofNat, Option.some.injEq, Prod.mk.injEq,
      and_true]
    have : v % 256 ^ (n + 1) = v / 256 ^ n % 256 * 256 ^ n + v % 256 ^ n := by
      rw [pow_succ, Nat.mod_mul]; ring
    rw [this]; ring

/-- Reading `n` bytes that are there gives the number they spell, and they are the bytes of that number. -/
theorem readBytes_some {n acc : Nat} {bs rest : List Byte} {m : Nat} (h : readBytes n acc bs = some (m, rest)) :
    ∃ v, v < 256 ^ n ∧ bs = putBytes n v ++ rest ∧ m = acc * 256 ^ n + v := by
  induction n generalizing acc bs with
  | zero =>
    simp only [readBytes, Option.some.injEq, Prod.mk.injEq] at h
    exact ⟨0, by simp, by simp [putBytes, h.2], by simp [h.1]⟩
  | succ n ih =>
    cases bs with
    | nil => simp [readBytes] at h
    | cons b bs =>
      simp only [readBytes] at h
      obtain ⟨v, hv, rfl, rfl⟩ := ih h
      have hb := b.isLt
      refine ⟨b.toNat * 256 ^ n + v, ?_, ?_, by ring⟩
      · calc b.toNat * 256 ^ n + v < b.toNat * 256 ^ n + 256 ^ n := by omega
          _ = (b.toNat + 1) * 256 ^ n := by ring
          _ ≤ 256 * 256 ^ n := Nat.mul_le_mul_right _ (by omega)
          _ = 256 ^ (n + 1) := by ring
      · have hp : 0 < 256 ^ n := by positivity
        have h1 : (b.toNat * 256 ^ n + v) / 256 ^ n = b.toNat := by
          rw [mul_comm, Nat.mul_add_div hp, Nat.div_eq_of_lt hv, Nat.add_zero]
        have hl : ∀ k ≤ n, putBytes k (b.toNat * 256 ^ n + v) = putBytes k v := by
          intro k
          induction k with
          | zero => intro; rfl
          | succ k ihk =>
            intro hk
            simp only [putBytes, ihk (by omega)]
            congr 1
            apply BitVec.eq_of_toNat_eq
            obtain ⟨j, rfl⟩ : ∃ j, n = k + 1 + j := ⟨n - (k + 1), by omega⟩
            have : b.toNat * 256 ^ (k + 1 + j) = 256 ^ k * (256 * (b.toNat * 256 ^ j)) := by ring
            rw [this, BitVec.toNat_ofNat, BitVec.toNat_ofNat, Nat.mul_add_div (by positivity)]
            omega
        simp [putBytes, h1, hl n le_rfl]

theorem two_pow_le_fieldBytes (w : Nat) : 2 ^ w ≤ 256 ^ fieldBytes w := by
  rw [show (256 : Nat) = 2 ^ 8 by norm_num, ← pow_mul]
  exact Nat.pow_le_pow_right (by norm_num) (by unfold fieldBytes; omega)

/-- Reading back a field that was written. -/
@[simp] theorem withField_putField {w : Nat} (v : BitVec w) (rest : List Byte)
    (k : BitVec w → List Byte → Except DecodeError Instr) :
    withField w (putField v ++ rest) k = k v rest := by
  have h : v.toNat % 256 ^ fieldBytes w = v.toNat :=
    Nat.mod_eq_of_lt (lt_of_lt_of_le v.isLt (two_pow_le_fieldBytes w))
  simp [withField, putField, readBytes_putBytes, h, v.isLt]

/-- A field that was read is the bytes of its value. -/
theorem withField_ok {w : Nat} {bs : List Byte} {k : BitVec w → List Byte → Except DecodeError Instr} {i : Instr}
    (h : withField w bs k = .ok i) : ∃ v rest, bs = putField v ++ rest ∧ k v rest = .ok i := by
  unfold withField at h
  split at h
  · cases h
  · rename_i n rest hr
    split at h
    · rename_i hn
      obtain ⟨v, -, rfl, rfl⟩ := readBytes_some hr
      simp only [Nat.zero_mul, Nat.zero_add] at hn h
      exact ⟨_, rest, by simp [putField, Nat.mod_eq_of_lt hn], h⟩
    · cases h

@[simp] theorem withFlag_putFlag (b : Bool) (rest : List Byte) (k : Bool → List Byte → Except DecodeError Instr) :
    withFlag (putFlag b ++ rest) k = k b rest := by
  cases b <;> simp [withFlag, putFlag]

theorem withFlag_ok {bs : List Byte} {k : Bool → List Byte → Except DecodeError Instr} {i : Instr}
    (h : withFlag bs k = .ok i) : ∃ b rest, bs = putFlag b ++ rest ∧ k b rest = .ok i := by
  obtain ⟨v, rest, rfl, hk⟩ := withField_ok h
  refine ⟨v == 1#1, rest, ?_, hk⟩
  rcases BitVec.eq_zero_or_eq_one v with rfl | rfl <;> rfl

@[simp] theorem endOf_nil (i : Instr) : endOf i [] = .ok i := rfl

theorem endOf_ok {i j : Instr} {bs : List Byte} (h : endOf i bs = .ok j) : bs = [] ∧ i = j := by
  cases bs with
  | nil => exact ⟨rfl, by simpa [endOf] using h⟩
  | cons b bs => cases h

/-! The fields at the end of a request, where no byte follows. -/

@[simp] theorem withField_putField_last {w : Nat} (v : BitVec w)
    (k : BitVec w → List Byte → Except DecodeError Instr) : withField w (putField v) k = k v [] := by
  simpa using withField_putField v [] k

@[simp] theorem withFlag_putFlag_last (b : Bool) (k : Bool → List Byte → Except DecodeError Instr) :
    withFlag (putFlag b) k = k b [] := by
  simpa using withFlag_putFlag b [] k

@[simp] theorem withStatus_putStatus (r : Status) (k : Status → List Byte → Except DecodeError Instr) :
    withStatus (putStatus r) k = k r [] := by
  simp [withStatus, putStatus]

@[simp] theorem withConfigFlags_putConfigFlags (r : ConfigFlags)
    (k : ConfigFlags → List Byte → Except DecodeError Instr) : withConfigFlags (putConfigFlags r) k = k r [] := by
  simp [withConfigFlags, putConfigFlags]

@[simp] theorem withFaultFlags_putFaultFlags (r : FaultFlags)
    (k : FaultFlags → List Byte → Except DecodeError Instr) : withFaultFlags (putFaultFlags r) k = k r [] := by
  simp [withFaultFlags, putFaultFlags]

@[simp] theorem withTimeOfDay_putTimeOfDay (r : TimeOfDay)
    (k : TimeOfDay → List Byte → Except DecodeError Instr) : withTimeOfDay (putTimeOfDay r) k = k r [] := by
  simp [withTimeOfDay, putTimeOfDay]

@[simp] theorem withCalendarDate_putCalendarDate (r : CalendarDate)
    (k : CalendarDate → List Byte → Except DecodeError Instr) :
    withCalendarDate (putCalendarDate r) k = k r [] := by
  simp [withCalendarDate, putCalendarDate]

theorem withStatus_ok {bs : List Byte} {k : Status → List Byte → Except DecodeError Instr} {i : Instr}
    (h : withStatus bs k = .ok i) : ∃ r rest, bs = putStatus r ++ rest ∧ k r rest = .ok i := by
  unfold withStatus at h
  obtain ⟨b1, _, rfl, h1⟩ := withFlag_ok h
  obtain ⟨b2, _, rfl, h2⟩ := withFlag_ok h1
  obtain ⟨b3, _, rfl, h3⟩ := withFlag_ok h2
  obtain ⟨b4, _, rfl, h4⟩ := withFlag_ok h3
  obtain ⟨b5, _, rfl, h5⟩ := withFlag_ok h4
  obtain ⟨b6, _, rfl, h6⟩ := withFlag_ok h5
  obtain ⟨b7, _, rfl, h7⟩ := withFlag_ok h6
  obtain ⟨b8, _, rfl, h8⟩ := withFlag_ok h7
  obtain ⟨b9, _, rfl, h9⟩ := withFlag_ok h8
  obtain ⟨b10, _, rfl, h10⟩ := withFlag_ok h9
  obtain ⟨b11, _, rfl, h11⟩ := withFlag_ok h10
  obtain ⟨b12, _, rfl, h12⟩ := withFlag_ok h11
  exact ⟨_, _, by simp [putStatus], h12⟩

theorem withConfigFlags_ok {bs : List Byte} {k : ConfigFlags → List Byte → Except DecodeError Instr} {i : Instr}
    (h : withConfigFlags bs k = .ok i) : ∃ r rest, bs = putConfigFlags r ++ rest ∧ k r rest = .ok i := by
  unfold withConfigFlags at h
  obtain ⟨b1, _, rfl, h1⟩ := withFlag_ok h
  obtain ⟨b2, _, rfl, h2⟩ := withFlag_ok h1
  obtain ⟨b3, _, rfl, h3⟩ := withFlag_ok h2
  obtain ⟨b4, _, rfl, h4⟩ := withFlag_ok h3
  obtain ⟨b5, _, rfl, h5⟩ := withFlag_ok h4
  obtain ⟨b6, _, rfl, h6⟩ := withFlag_ok h5
  exact ⟨_, _, by simp [putConfigFlags], h6⟩

theorem withFaultFlags_ok {bs : List Byte} {k : FaultFlags → List Byte → Except DecodeError Instr} {i : Instr}
    (h : withFaultFlags bs k = .ok i) : ∃ r rest, bs = putFaultFlags r ++ rest ∧ k r rest = .ok i := by
  unfold withFaultFlags at h
  obtain ⟨c, _, rfl, h1⟩ := withField_ok h
  obtain ⟨b1, _, rfl, h2⟩ := withFlag_ok h1
  obtain ⟨b2, _, rfl, h3⟩ := withFlag_ok h2
  obtain ⟨b3, _, rfl, h4⟩ := withFlag_ok h3
  obtain ⟨b4, _, rfl, h5⟩ := withFlag_ok h4
  obtain ⟨b5, _, rfl, h6⟩ := withFlag_ok h5
  obtain ⟨b6, _, rfl, h7⟩ := withFlag_ok h6
  exact ⟨_, _, by simp [putFaultFlags], h7⟩

theorem withTimeOfDay_ok {bs : List Byte} {k : TimeOfDay → List Byte → Except DecodeError Instr} {i : Instr}
    (h : withTimeOfDay bs k = .ok i) : ∃ r rest, bs = putTimeOfDay r ++ rest ∧ k r rest = .ok i := by
  unfold withTimeOfDay at h
  obtain ⟨d, _, rfl, h1⟩ := withField_ok h
  obtain ⟨o, _, rfl, h2⟩ := withField_ok h1
  obtain ⟨m, _, rfl, h3⟩ := withField_ok h2
  exact ⟨_, _, by simp [putTimeOfDay], h3⟩

theorem withCalendarDate_ok {bs : List Byte} {k : CalendarDate → List Byte → Except DecodeError Instr} {i : Instr}
    (h : withCalendarDate bs k = .ok i) : ∃ r rest, bs = putCalendarDate r ++ rest ∧ k r rest = .ok i := by
  unfold withCalendarDate at h
  obtain ⟨m, _, rfl, h1⟩ := withField_ok h
  obtain ⟨d, _, rfl, h2⟩ := withField_ok h1
  exact ⟨_, _, by simp [putCalendarDate], h2⟩

/-! ### Well-formed requests -/

/-- The bytes of a field of `w ≥ 1` bits fit that field, and what follows decides the rest. -/
theorem fieldsFit_putField {w : Nat} (hw : 0 < w) (v : BitVec w) (ws : List Nat) (rest : List Byte) :
    fieldsFit (w :: ws) (putField v ++ rest) = fieldsFit ws rest := by
  obtain ⟨n, hn⟩ : ∃ n, fieldBytes w = n + 1 := ⟨fieldBytes w - 1, by unfold fieldBytes; omega⟩
  have hlen : (putField v).length = n + 1 := by rw [putField, putBytes_length, hn]
  have hd : (putField v ++ rest).drop (n + 1) = rest := by rw [← hlen, List.drop_left]
  have hh : (putField v ++ rest).headD 0#8 = BitVec.ofNat 8 (v.toNat / 256 ^ n) := by
    simp [putField, hn, putBytes]
  have hb : w % 8 = 0 ∨ v.toNat / 256 ^ n % 256 < 2 ^ (w % 8) := by
    by_cases h : w % 8 = 0
    · exact .inl h
    · right
      refine lt_of_le_of_lt (Nat.mod_le _ _) ?_
      rw [Nat.div_lt_iff_lt_mul (by positivity), show (256 : Nat) = 2 ^ 8 by norm_num, ← pow_mul, ← pow_add]
      refine lt_of_lt_of_le v.isLt (Nat.pow_le_pow_right (by norm_num) ?_)
      unfold fieldBytes at hn; omega
  simp only [fieldsFit, hn, hd, hh, BitVec.toNat_ofNat, List.length_append, hlen]
  rcases hb with h | h <;> simp [h]

theorem fieldsFit_putField_last {w : Nat} (hw : 0 < w) (v : BitVec w) : fieldsFit [w] (putField v) = true := by
  simpa [fieldsFit] using fieldsFit_putField hw v [] []

theorem fieldsFit_putFlag (b : Bool) (ws : List Nat) (rest : List Byte) :
    fieldsFit (1 :: ws) (putFlag b ++ rest) = fieldsFit ws rest := fieldsFit_putField one_pos _ _ _

theorem fieldsFit_putFlag_last (b : Bool) : fieldsFit [1] (putFlag b) = true := fieldsFit_putField_last one_pos _

end Sys2Proof
end

