-- ==== Sys2Proof/Laws/State.lean ====
section
/-! SUPPORT. One lemma per field of `State` per update of Machine/Ops.lean, so that no later proof unfolds a record
update. -/

namespace Sys2Proof.Machine

variable (s : State)

/-! `setFsm` -/

@[simp] theorem setFsm_fsm (v : Fsm) : (s.setFsm v).fsm = v := rfl
@[simp] theorem setFsm_timeout (v : Fsm) : (s.setFsm v).timeout = s.timeout := rfl
@[simp] theorem setFsm_xreq (v : Fsm) : (s.setFsm v).xreq = s.xreq := rfl
@[simp] theorem setFsm_xt0 (v : Fsm) : (s.setFsm v).xt0 = s.xt0 := rfl
@[simp] theorem setFsm_xtmo (v : Fsm) : (s.setFsm v).xtmo = s.xtmo := rfl
@[simp] theorem setFsm_xcmd (v : Fsm) : (s.setFsm v).xcmd = s.xcmd := rfl
@[simp] theorem setFsm_out (v : Fsm) : (s.setFsm v).out = s.out := rfl
@[simp] theorem setFsm_outWritten (v : Fsm) : (s.setFsm v).outWritten = s.outWritten := rfl
@[simp] theorem setFsm_sent (v : Fsm) : (s.setFsm v).sent = s.sent := rfl
@[simp] theorem setFsm_replies (v : Fsm) : (s.setFsm v).replies = s.replies := rfl
@[simp] theorem setFsm_reads (v : Fsm) : (s.setFsm v).reads = s.reads := rfl
@[simp] theorem setFsm_inputs (v : Fsm) : (s.setFsm v).inputs = s.inputs := rfl
@[simp] theorem setFsm_clock (v : Fsm) : (s.setFsm v).clock = s.clock := rfl
@[simp] theorem setFsm_delays (v : Fsm) : (s.setFsm v).delays = s.delays := rfl
@[simp] theorem setFsm_fresh (v : Fsm) : (s.setFsm v).fresh = s.fresh := rfl
@[simp] theorem setFsm_pollMs (v : Fsm) : (s.setFsm v).pollMs = s.pollMs := rfl

/-! `setTimeout` -/

@[simp] theorem setTimeout_fsm (v : Millis) : (s.setTimeout v).fsm = s.fsm := rfl
@[simp] theorem setTimeout_timeout (v : Millis) : (s.setTimeout v).timeout = v := rfl
@[simp] theorem setTimeout_xreq (v : Millis) : (s.setTimeout v).xreq = s.xreq := rfl
@[simp] theorem setTimeout_xt0 (v : Millis) : (s.setTimeout v).xt0 = s.xt0 := rfl
@[simp] theorem setTimeout_xtmo (v : Millis) : (s.setTimeout v).xtmo = s.xtmo := rfl
@[simp] theorem setTimeout_xcmd (v : Millis) : (s.setTimeout v).xcmd = s.xcmd := rfl
@[simp] theorem setTimeout_out (v : Millis) : (s.setTimeout v).out = s.out := rfl
@[simp] theorem setTimeout_outWritten (v : Millis) : (s.setTimeout v).outWritten = s.outWritten := rfl
@[simp] theorem setTimeout_sent (v : Millis) : (s.setTimeout v).sent = s.sent := rfl
@[simp] theorem setTimeout_replies (v : Millis) : (s.setTimeout v).replies = s.replies := rfl
@[simp] theorem setTimeout_reads (v : Millis) : (s.setTimeout v).reads = s.reads := rfl
@[simp] theorem setTimeout_inputs (v : Millis) : (s.setTimeout v).inputs = s.inputs := rfl
@[simp] theorem setTimeout_clock (v : Millis) : (s.setTimeout v).clock = s.clock := rfl
@[simp] theorem setTimeout_delays (v : Millis) : (s.setTimeout v).delays = s.delays := rfl
@[simp] theorem setTimeout_fresh (v : Millis) : (s.setTimeout v).fresh = s.fresh := rfl
@[simp] theorem setTimeout_pollMs (v : Millis) : (s.setTimeout v).pollMs = s.pollMs := rfl

/-! `latch` -/

@[simp] theorem latch_fsm (r : Frame) (m : Millis) (x : XCmd) : (s.latch r m x).fsm = s.fsm := rfl
@[simp] theorem latch_timeout (r : Frame) (m : Millis) (x : XCmd) : (s.latch r m x).timeout = s.timeout := rfl
@[simp] theorem latch_xreq (r : Frame) (m : Millis) (x : XCmd) : (s.latch r m x).xreq = r := rfl
@[simp] theorem latch_xt0 (r : Frame) (m : Millis) (x : XCmd) : (s.latch r m x).xt0 = s.xt0 := rfl
@[simp] theorem latch_xtmo (r : Frame) (m : Millis) (x : XCmd) : (s.latch r m x).xtmo = m := rfl
@[simp] theorem latch_xcmd (r : Frame) (m : Millis) (x : XCmd) : (s.latch r m x).xcmd = x := rfl
@[simp] theorem latch_out (r : Frame) (m : Millis) (x : XCmd) : (s.latch r m x).out = s.out := rfl
@[simp] theorem latch_outWritten (r : Frame) (m : Millis) (x : XCmd) : (s.latch r m x).outWritten = s.outWritten := rfl
@[simp] theorem latch_sent (r : Frame) (m : Millis) (x : XCmd) : (s.latch r m x).sent = s.sent := rfl
@[simp] theorem latch_replies (r : Frame) (m : Millis) (x : XCmd) : (s.latch r m x).replies = s.replies := rfl
@[simp] theorem latch_reads (r : Frame) (m : Millis) (x : XCmd) : (s.latch r m x).reads = s.reads := rfl
@[simp] theorem latch_inputs (r : Frame) (m : Millis) (x : XCmd) : (s.latch r m x).inputs = s.inputs := rfl
@[simp] theorem latch_clock (r : Frame) (m : Millis) (x : XCmd) : (s.latch r m x).clock = s.clock := rfl
@[simp] theorem latch_delays (r : Frame) (m : Millis) (x : XCmd) : (s.latch r m x).delays = s.delays := rfl
@[simp] theorem latch_fresh (r : Frame) (m : Millis) (x : XCmd) : (s.latch r m x).fresh = s.fresh := rfl
@[simp] theorem latch_pollMs (r : Frame) (m : Millis) (x : XCmd) : (s.latch r m x).pollMs = s.pollMs := rfl

/-! `setT0` -/

@[simp] theorem setT0_fsm (v : Millis) : (s.setT0 v).fsm = s.fsm := rfl
@[simp] theorem setT0_timeout (v : Millis) : (s.setT0 v).timeout = s.timeout := rfl
@[simp] theorem setT0_xreq (v : Millis) : (s.setT0 v).xreq = s.xreq := rfl
@[simp] theorem setT0_xt0 (v : Millis) : (s.setT0 v).xt0 = v := rfl
@[simp] theorem setT0_xtmo (v : Millis) : (s.setT0 v).xtmo = s.xtmo := rfl
@[simp] theorem setT0_xcmd (v : Millis) : (s.setT0 v).xcmd = s.xcmd := rfl
@[simp] theorem setT0_out (v : Millis) : (s.setT0 v).out = s.out := rfl
@[simp] theorem setT0_outWritten (v : Millis) : (s.setT0 v).outWritten = s.outWritten := rfl
@[simp] theorem setT0_sent (v : Millis) : (s.setT0 v).sent = s.sent := rfl
@[simp] theorem setT0_replies (v : Millis) : (s.setT0 v).replies = s.replies := rfl
@[simp] theorem setT0_reads (v : Millis) : (s.setT0 v).reads = s.reads := rfl
@[simp] theorem setT0_inputs (v : Millis) : (s.setT0 v).inputs = s.inputs := rfl
@[simp] theorem setT0_clock (v : Millis) : (s.setT0 v).clock = s.clock := rfl
@[simp] theorem setT0_delays (v : Millis) : (s.setT0 v).delays = s.delays := rfl
@[simp] theorem setT0_fresh (v : Millis) : (s.setT0 v).fresh = s.fresh := rfl
@[simp] theorem setT0_pollMs (v : Millis) : (s.setT0 v).pollMs = s.pollMs := rfl

/-! `writeOut` -/

@[simp] theorem writeOut_fsm (v : OutValue) : (s.writeOut v).fsm = s.fsm := rfl
@[simp] theorem writeOut_timeout (v : OutValue) : (s.writeOut v).timeout = s.timeout := rfl
@[simp] theorem writeOut_xreq (v : OutValue) : (s.writeOut v).xreq = s.xreq := rfl
@[simp] theorem writeOut_xt0 (v : OutValue) : (s.writeOut v).xt0 = s.xt0 := rfl
@[simp] theorem writeOut_xtmo (v : OutValue) : (s.writeOut v).xtmo = s.xtmo := rfl
@[simp] theorem writeOut_xcmd (v : OutValue) : (s.writeOut v).xcmd = s.xcmd := rfl
@[simp] theorem writeOut_out (v : OutValue) : (s.writeOut v).out = v := rfl
@[simp] theorem writeOut_outWritten (v : OutValue) : (s.writeOut v).outWritten = true := rfl
@[simp] theorem writeOut_sent (v : OutValue) : (s.writeOut v).sent = s.sent := rfl
@[simp] theorem writeOut_replies (v : OutValue) : (s.writeOut v).replies = s.replies := rfl
@[simp] theorem writeOut_reads (v : OutValue) : (s.writeOut v).reads = s.reads := rfl
@[simp] theorem writeOut_inputs (v : OutValue) : (s.writeOut v).inputs = s.inputs := rfl
@[simp] theorem writeOut_clock (v : OutValue) : (s.writeOut v).clock = s.clock := rfl
@[simp] theorem writeOut_delays (v : OutValue) : (s.writeOut v).delays = s.delays := rfl
@[simp] theorem writeOut_fresh (v : OutValue) : (s.writeOut v).fresh = s.fresh := rfl
@[simp] theorem writeOut_pollMs (v : OutValue) : (s.writeOut v).pollMs = s.pollMs := rfl

/-! `transmit` -/

@[simp] theorem transmit_fsm (w : Frame) : (s.transmit w).fsm = s.fsm := rfl
@[simp] theorem transmit_timeout (w : Frame) : (s.transmit w).timeout = s.timeout := rfl
@[simp] theorem transmit_xreq (w : Frame) : (s.transmit w).xreq = s.xreq := rfl
@[simp] theorem transmit_xt0 (w : Frame) : (s.transmit w).xt0 = s.xt0 := rfl
@[simp] theorem transmit_xtmo (w : Frame) : (s.transmit w).xtmo = s.xtmo := rfl
@[simp] theorem transmit_xcmd (w : Frame) : (s.transmit w).xcmd = s.xcmd := rfl
@[simp] theorem transmit_out (w : Frame) : (s.transmit w).out = s.out := rfl
@[simp] theorem transmit_outWritten (w : Frame) : (s.transmit w).outWritten = s.outWritten := rfl
@[simp] theorem transmit_sent (w : Frame) : (s.transmit w).sent = w :: s.sent := rfl
@[simp] theorem transmit_replies (w : Frame) : (s.transmit w).replies = s.replies := rfl
@[simp] theorem transmit_reads (w : Frame) : (s.transmit w).reads = s.reads := rfl
@[simp] theorem transmit_inputs (w : Frame) : (s.transmit w).inputs = s.inputs := rfl
@[simp] theorem transmit_clock (w : Frame) : (s.transmit w).clock = s.clock := rfl
@[simp] theorem transmit_delays (w : Frame) : (s.transmit w).delays = s.delays := rfl
@[simp] theorem transmit_fresh (w : Frame) : (s.transmit w).fresh = s.fresh := rfl
@[simp] theorem transmit_pollMs (w : Frame) : (s.transmit w).pollMs = s.pollMs := rfl

/-! `pushReply` -/

@[simp] theorem pushReply_fsm (c : Instr) (a : Answer) : (s.pushReply c a).fsm = s.fsm := rfl
@[simp] theorem pushReply_timeout (c : Instr) (a : Answer) : (s.pushReply c a).timeout = s.timeout := rfl
@[simp] theorem pushReply_xreq (c : Instr) (a : Answer) : (s.pushReply c a).xreq = s.xreq := rfl
@[simp] theorem pushReply_xt0 (c : Instr) (a : Answer) : (s.pushReply c a).xt0 = s.xt0 := rfl
@[simp] theorem pushReply_xtmo (c : Instr) (a : Answer) : (s.pushReply c a).xtmo = s.xtmo := rfl
@[simp] theorem pushReply_xcmd (c : Instr) (a : Answer) : (s.pushReply c a).xcmd = s.xcmd := rfl
@[simp] theorem pushReply_out (c : Instr) (a : Answer) : (s.pushReply c a).out = s.out := rfl
@[simp] theorem pushReply_outWritten (c : Instr) (a : Answer) : (s.pushReply c a).outWritten = s.outWritten := rfl
@[simp] theorem pushReply_sent (c : Instr) (a : Answer) : (s.pushReply c a).sent = s.sent := rfl
@[simp] theorem pushReply_replies (c : Instr) (a : Answer) : (s.pushReply c a).replies = ⟨c, a⟩ :: s.replies := rfl
@[simp] theorem pushReply_reads (c : Instr) (a : Answer) : (s.pushReply c a).reads = s.reads := rfl
@[simp] theorem pushReply_inputs (c : Instr) (a : Answer) : (s.pushReply c a).inputs = s.inputs := rfl
@[simp] theorem pushReply_clock (c : Instr) (a : Answer) : (s.pushReply c a).clock = s.clock := rfl
@[simp] theorem pushReply_delays (c : Instr) (a : Answer) : (s.pushReply c a).delays = s.delays := rfl
@[simp] theorem pushReply_fresh (c : Instr) (a : Answer) : (s.pushReply c a).fresh = s.fresh := rfl
@[simp] theorem pushReply_pollMs (c : Instr) (a : Answer) : (s.pushReply c a).pollMs = s.pollMs := rfl

/-! `recordRead` -/

@[simp] theorem recordRead_fsm (r : OutRead) : (s.recordRead r).fsm = s.fsm := rfl
@[simp] theorem recordRead_timeout (r : OutRead) : (s.recordRead r).timeout = s.timeout := rfl
@[simp] theorem recordRead_xreq (r : OutRead) : (s.recordRead r).xreq = s.xreq := rfl
@[simp] theorem recordRead_xt0 (r : OutRead) : (s.recordRead r).xt0 = s.xt0 := rfl
@[simp] theorem recordRead_xtmo (r : OutRead) : (s.recordRead r).xtmo = s.xtmo := rfl
@[simp] theorem recordRead_xcmd (r : OutRead) : (s.recordRead r).xcmd = s.xcmd := rfl
@[simp] theorem recordRead_out (r : OutRead) : (s.recordRead r).out = s.out := rfl
@[simp] theorem recordRead_outWritten (r : OutRead) : (s.recordRead r).outWritten = s.outWritten := rfl
@[simp] theorem recordRead_sent (r : OutRead) : (s.recordRead r).sent = s.sent := rfl
@[simp] theorem recordRead_replies (r : OutRead) : (s.recordRead r).replies = s.replies := rfl
@[simp] theorem recordRead_reads (r : OutRead) : (s.recordRead r).reads = r :: s.reads := rfl
@[simp] theorem recordRead_inputs (r : OutRead) : (s.recordRead r).inputs = s.inputs := rfl
@[simp] theorem recordRead_clock (r : OutRead) : (s.recordRead r).clock = s.clock := rfl
@[simp] theorem recordRead_delays (r : OutRead) : (s.recordRead r).delays = s.delays := rfl
@[simp] theorem recordRead_fresh (r : OutRead) : (s.recordRead r).fresh = s.fresh := rfl
@[simp] theorem recordRead_pollMs (r : OutRead) : (s.recordRead r).pollMs = s.pollMs := rfl

/-! `popInput` -/

@[simp] theorem popInput_fsm : (s.popInput).fsm = s.fsm := rfl
@[simp] theorem popInput_timeout : (s.popInput).timeout = s.timeout := rfl
@[simp] theorem popInput_xreq : (s.popInput).xreq = s.xreq := rfl
@[simp] theorem popInput_xt0 : (s.popInput).xt0 = s.xt0 := rfl
@[simp] theorem popInput_xtmo : (s.popInput).xtmo = s.xtmo := rfl
@[simp] theorem popInput_xcmd : (s.popInput).xcmd = s.xcmd := rfl
@[simp] theorem popInput_out : (s.popInput).out = s.out := rfl
@[simp] theorem popInput_outWritten : (s.popInput).outWritten = s.outWritten := rfl
@[simp] theorem popInput_sent : (s.popInput).sent = s.sent := rfl
@[simp] theorem popInput_replies : (s.popInput).replies = s.replies := rfl
@[simp] theorem popInput_reads : (s.popInput).reads = s.reads := rfl
@[simp] theorem popInput_inputs : (s.popInput).inputs = s.inputs.tail := rfl
@[simp] theorem popInput_clock : (s.popInput).clock = s.clock := rfl
@[simp] theorem popInput_delays : (s.popInput).delays = s.delays := rfl
@[simp] theorem popInput_fresh : (s.popInput).fresh = s.fresh := rfl
@[simp] theorem popInput_pollMs : (s.popInput).pollMs = s.pollMs := rfl

/-! `draw` -/

@[simp] theorem draw_fsm : (s.draw).fsm = s.fsm := rfl
@[simp] theorem draw_timeout : (s.draw).timeout = s.timeout := rfl
@[simp] theorem draw_xreq : (s.draw).xreq = s.xreq := rfl
@[simp] theorem draw_xt0 : (s.draw).xt0 = s.xt0 := rfl
@[simp] theorem draw_xtmo : (s.draw).xtmo = s.xtmo := rfl
@[simp] theorem draw_xcmd : (s.draw).xcmd = s.xcmd := rfl
@[simp] theorem draw_out : (s.draw).out = s.out := rfl
@[simp] theorem draw_outWritten : (s.draw).outWritten = s.outWritten := rfl
@[simp] theorem draw_sent : (s.draw).sent = s.sent := rfl
@[simp] theorem draw_replies : (s.draw).replies = s.replies := rfl
@[simp] theorem draw_reads : (s.draw).reads = s.reads := rfl
@[simp] theorem draw_inputs : (s.draw).inputs = s.inputs := rfl
@[simp] theorem draw_clock : (s.draw).clock = s.clock := rfl
@[simp] theorem draw_delays : (s.draw).delays = s.delays := rfl
@[simp] theorem draw_fresh : (s.draw).fresh = s.fresh + 1 := rfl
@[simp] theorem draw_pollMs : (s.draw).pollMs = s.pollMs := rfl

/-! `sleep` -/

@[simp] theorem sleep_fsm : (s.sleep).fsm = s.fsm := rfl
@[simp] theorem sleep_timeout : (s.sleep).timeout = s.timeout := rfl
@[simp] theorem sleep_xreq : (s.sleep).xreq = s.xreq := rfl
@[simp] theorem sleep_xt0 : (s.sleep).xt0 = s.xt0 := rfl
@[simp] theorem sleep_xtmo : (s.sleep).xtmo = s.xtmo := rfl
@[simp] theorem sleep_xcmd : (s.sleep).xcmd = s.xcmd := rfl
@[simp] theorem sleep_out : (s.sleep).out = s.out := rfl
@[simp] theorem sleep_outWritten : (s.sleep).outWritten = s.outWritten := rfl
@[simp] theorem sleep_sent : (s.sleep).sent = s.sent := rfl
@[simp] theorem sleep_replies : (s.sleep).replies = s.replies := rfl
@[simp] theorem sleep_reads : (s.sleep).reads = s.reads := rfl
@[simp] theorem sleep_inputs : (s.sleep).inputs = s.inputs := rfl
@[simp] theorem sleep_clock : (s.sleep).clock = s.clock + s.pollMs := rfl
@[simp] theorem sleep_delays : (s.sleep).delays = s.delays := rfl
@[simp] theorem sleep_fresh : (s.sleep).fresh = s.fresh := rfl
@[simp] theorem sleep_pollMs : (s.sleep).pollMs = s.pollMs := rfl

/-! `resetBlock` -/

@[simp] theorem resetBlock_fsm : (s.resetBlock).fsm = State.reset.fsm := rfl
@[simp] theorem resetBlock_timeout : (s.resetBlock).timeout = State.reset.timeout := rfl
@[simp] theorem resetBlock_xreq : (s.resetBlock).xreq = State.reset.xreq := rfl
@[simp] theorem resetBlock_xt0 : (s.resetBlock).xt0 = State.reset.xt0 := rfl
@[simp] theorem resetBlock_xtmo : (s.resetBlock).xtmo = State.reset.xtmo := rfl
@[simp] theorem resetBlock_xcmd : (s.resetBlock).xcmd = State.reset.xcmd := rfl
@[simp] theorem resetBlock_out : (s.resetBlock).out = State.reset.out := rfl
@[simp] theorem resetBlock_outWritten : (s.resetBlock).outWritten = State.reset.outWritten := rfl
@[simp] theorem resetBlock_sent : (s.resetBlock).sent = s.sent := rfl
@[simp] theorem resetBlock_replies : (s.resetBlock).replies = s.replies := rfl
@[simp] theorem resetBlock_reads : (s.resetBlock).reads = s.reads := rfl
@[simp] theorem resetBlock_inputs : (s.resetBlock).inputs = s.inputs := rfl
@[simp] theorem resetBlock_clock : (s.resetBlock).clock = s.clock := rfl
@[simp] theorem resetBlock_delays : (s.resetBlock).delays = s.delays := rfl
@[simp] theorem resetBlock_fresh : (s.resetBlock).fresh = s.fresh := rfl
@[simp] theorem resetBlock_pollMs : (s.resetBlock).pollMs = s.pollMs := rfl

/-! `passTime`: what passing time leaves alone, and what it does to the time base (R352). -/

@[simp] theorem passTime_fsm : s.passTime.fsm = s.fsm := by
  unfold State.passTime; split <;> rfl
@[simp] theorem passTime_timeout : s.passTime.timeout = s.timeout := by
  unfold State.passTime; split <;> rfl
@[simp] theorem passTime_xreq : s.passTime.xreq = s.xreq := by
  unfold State.passTime; split <;> rfl
@[simp] theorem passTime_xt0 : s.passTime.xt0 = s.xt0 := by
  unfold State.passTime; split <;> rfl
@[simp] theorem passTime_xtmo : s.passTime.xtmo = s.xtmo := by
  unfold State.passTime; split <;> rfl
@[simp] theorem passTime_xcmd : s.passTime.xcmd = s.xcmd := by
  unfold State.passTime; split <;> rfl
@[simp] theorem passTime_out : s.passTime.out = s.out := by
  unfold State.passTime; split <;> rfl
@[simp] theorem passTime_outWritten : s.passTime.outWritten = s.outWritten := by
  unfold State.passTime; split <;> rfl
@[simp] theorem passTime_sent : s.passTime.sent = s.sent := by
  unfold State.passTime; split <;> rfl
@[simp] theorem passTime_replies : s.passTime.replies = s.replies := by
  unfold State.passTime; split <;> rfl
@[simp] theorem passTime_reads : s.passTime.reads = s.reads := by
  unfold State.passTime; split <;> rfl
@[simp] theorem passTime_inputs : s.passTime.inputs = s.inputs := by
  unfold State.passTime; split <;> rfl
@[simp] theorem passTime_pollMs : s.passTime.pollMs = s.pollMs := by
  unfold State.passTime; split <;> rfl

theorem passTime_scripted {d : Nat} {ds : List Nat} (h : s.delays = d :: ds) :
    s.passTime = { s with clock := s.clock + d, delays := ds } := by
  simp [State.passTime, h]

theorem passTime_free (h : s.delays = []) :
    s.passTime = { s with clock := s.clock + Config.delay s.fresh, fresh := s.fresh + 1 } := by
  simp [State.passTime, h]

/-- A reading is at or after the previous one in true time (R352). -/
theorem clock_le_passTime : s.clock ≤ s.passTime.clock := by
  unfold State.passTime; split <;> simp

end Sys2Proof.Machine
end

