-- ==== Sys2Proof/Laws/Ops.lean ====
section
/-! SUPPORT. One lemma per shared operation of Machine/Ops.lean that says once everything it can do. -/

namespace Sys2Proof.Machine

/-! ### Raising an error (R350) -/

theorem raiseError_busy (c : Instr) (s : State) : raiseError .busy c s = s.pushReply c (.err .busy) := rfl

theorem raiseError_timedOut (c : Instr) (s : State) :
    raiseError .timedOut c s = (s.setFsm .idle).pushReply c (.err .timedOut) := rfl

/-- Only `TimedOut` touches a register, and that register is `FSM`. -/
theorem raiseError_cases (e : Err) (c : Instr) (s : State) :
    (e = .timedOut ∧ raiseError e c s = (s.setFsm .idle).pushReply c (.err e)) ∨
    ((e = .busy ∨ e = .invalidFraming ∨ e = .invalidEncoding) ∧ raiseError e c s = s.pushReply c (.err e)) ∨
    (e = .parityError ∧ raiseError e c s = s) := by
  cases e <;> simp [raiseError]

/-! ### The `Busy` check (R231) -/

theorem whenIdle_idle {c : Instr} {s : State} {go : State → State} (h : s.fsm = .idle) : whenIdle c s go = go s := by
  simp [whenIdle, h]

theorem whenIdle_awaiting {c : Instr} {s : State} {go : State → State} (h : s.fsm = .awaitingResponse) :
    whenIdle c s go = s.pushReply c (.err .busy) := by
  simp [whenIdle, h, raiseError]

/-- An engine command is refused without effect, or begins. -/
theorem whenIdle_cases (c : Instr) (s : State) (go : State → State) :
    (s.fsm = .awaitingResponse ∧ whenIdle c s go = s.pushReply c (.err .busy)) ∨
    (s.fsm = .idle ∧ whenIdle c s go = go s) := by
  cases h : s.fsm
  · exact .inr ⟨rfl, whenIdle_idle h⟩
  · exact .inl ⟨rfl, whenIdle_awaiting h⟩

/-! ### The start of a transaction (R232) -/

section Start
variable (x : XCmd) (r : Frame) (m : Millis) (s : State)

@[simp] theorem startTransaction_fsm : (startTransaction x r m s).fsm = .awaitingResponse := rfl
@[simp] theorem startTransaction_timeout : (startTransaction x r m s).timeout = s.timeout := by
  simp [startTransaction]
@[simp] theorem startTransaction_xreq : (startTransaction x r m s).xreq = r := by simp [startTransaction]
@[simp] theorem startTransaction_xtmo : (startTransaction x r m s).xtmo = m := by simp [startTransaction]
@[simp] theorem startTransaction_xcmd : (startTransaction x r m s).xcmd = x := by simp [startTransaction]
@[simp] theorem startTransaction_out : (startTransaction x r m s).out = s.out := by simp [startTransaction]
@[simp] theorem startTransaction_outWritten : (startTransaction x r m s).outWritten = s.outWritten := by
  simp [startTransaction]
@[simp] theorem startTransaction_sent : (startTransaction x r m s).sent = r :: s.sent := by simp [startTransaction]
@[simp] theorem startTransaction_replies : (startTransaction x r m s).replies = s.replies := by
  simp [startTransaction]
@[simp] theorem startTransaction_reads : (startTransaction x r m s).reads = s.reads := by simp [startTransaction]
@[simp] theorem startTransaction_inputs : (startTransaction x r m s).inputs = s.inputs := by
  simp [startTransaction]
@[simp] theorem startTransaction_pollMs : (startTransaction x r m s).pollMs = s.pollMs := by
  simp [startTransaction]

/-- `XT0` is the time base right after the hand-off: the clock of the state the start leaves (R232). -/
theorem startTransaction_xt0 :
    (startTransaction x r m s).xt0 = BitVec.ofNat 32 (startTransaction x r m s).clock := by
  simp [startTransaction, State.timeNow]

theorem clock_le_startTransaction : s.clock ≤ (startTransaction x r m s).clock := by
  simpa [startTransaction] using clock_le_passTime ((s.latch r m x).transmit r)

end Start

/-! ### Completion (R238, R351) -/

/-- What `Ok(f)` does: `FSM` is `Idle`, the command in `XCMD` gets one reply, and only a typed read writes `OUT`. -/
theorem completeOk_cases (f : Frame) (s : State) :
    (s.xcmd.finish = .replyFrame ∧
      completeOk f s = (s.setFsm .idle).pushReply s.xcmd.cmd (.ok (.frame f))) ∨
    (∃ d, s.xcmd.finish = .store d ∧
      completeOk f s = ((s.setFsm .idle).writeOut (decodeFor d f)).pushReply s.xcmd.cmd (.ok .none)) ∨
    (s.xcmd.finish = .acknowledge ∧
      completeOk f s = (s.setFsm .idle).pushReply s.xcmd.cmd (.ok .none)) := by
  cases h : s.xcmd.finish <;> simp [completeOk, replyOk, h]

@[simp] theorem completeOk_fsm (f : Frame) (s : State) : (completeOk f s).fsm = .idle := by
  rcases completeOk_cases f s with ⟨-, h⟩ | ⟨d, -, h⟩ | ⟨-, h⟩ <;> simp [h]

@[simp] theorem completeOk_timeout (f : Frame) (s : State) : (completeOk f s).timeout = s.timeout := by
  rcases completeOk_cases f s with ⟨-, h⟩ | ⟨d, -, h⟩ | ⟨-, h⟩ <;> simp [h]

@[simp] theorem completeOk_sent (f : Frame) (s : State) : (completeOk f s).sent = s.sent := by
  rcases completeOk_cases f s with ⟨-, h⟩ | ⟨d, -, h⟩ | ⟨-, h⟩ <;> simp [h]

@[simp] theorem completeOk_reads (f : Frame) (s : State) : (completeOk f s).reads = s.reads := by
  rcases completeOk_cases f s with ⟨-, h⟩ | ⟨d, -, h⟩ | ⟨-, h⟩ <;> simp [h]

@[simp] theorem completeOk_inputs (f : Frame) (s : State) : (completeOk f s).inputs = s.inputs := by
  rcases completeOk_cases f s with ⟨-, h⟩ | ⟨d, -, h⟩ | ⟨-, h⟩ <;> simp [h]

@[simp] theorem completeOk_pollMs (f : Frame) (s : State) : (completeOk f s).pollMs = s.pollMs := by
  rcases completeOk_cases f s with ⟨-, h⟩ | ⟨d, -, h⟩ | ⟨-, h⟩ <;> simp [h]

@[simp] theorem completeOk_clock (f : Frame) (s : State) : (completeOk f s).clock = s.clock := by
  rcases completeOk_cases f s with ⟨-, h⟩ | ⟨d, -, h⟩ | ⟨-, h⟩ <;> simp [h]

/-! ### The timeout check (R239, R240) -/

/-- The check reads the time base once, and then times out or sleeps. -/
theorem checkWindow_cases (s : State) :
    (windowExpired s.passTime.timeNow s.xt0 s.xtmo = true ∧
      checkWindow s = (s.passTime.setFsm .idle).pushReply s.xcmd.cmd (.err .timedOut)) ∨
    (windowExpired s.passTime.timeNow s.xt0 s.xtmo = false ∧ checkWindow s = s.passTime.sleep) := by
  cases h : windowExpired s.passTime.timeNow s.xt0 s.xtmo <;> simp [checkWindow, h, raiseError]

/-! ### The loop body (R235) -/

/-- One loop body: an accepted frame completes the transaction; otherwise the check is made, and a capture that fails
leaves no other trace (R237). -/
theorem loopBody_cases (a : Option Capture) (s : State) :
    (∃ c f, a = some c ∧ checkCapture c = .ok f ∧ loopBody a s = completeOk f s) ∨
    ((∀ c f, a = some c → checkCapture c ≠ .ok f) ∧ loopBody a s = checkWindow s) := by
  cases a with
  | none => exact .inr ⟨by simp, rfl⟩
  | some c =>
    cases h : checkCapture c with
    | ok f => exact .inl ⟨c, f, rfl, h, by simp [loopBody, h]⟩
    | error e => exact .inr ⟨by rintro c f ⟨⟩; simp [h], by simp [loopBody, h]⟩

@[simp] theorem iterate_idle {a : Option Capture} {s : State} (h : s.fsm = .idle) : iterate a s = s := by
  simp [iterate, h]

theorem iterate_awaiting {a : Option Capture} {s : State} (h : s.fsm = .awaitingResponse) :
    iterate a s = loopBody a s := by
  simp [iterate, h]

/-- Everything an engine step can do: nothing in `Idle`; else complete, time out, or sleep on. -/
theorem iterate_cases (a : Option Capture) (s : State) :
    (s.fsm = .idle ∧ iterate a s = s) ∨
    (s.fsm = .awaitingResponse ∧ ∃ c f, a = some c ∧ checkCapture c = .ok f ∧ iterate a s = completeOk f s) ∨
    (s.fsm = .awaitingResponse ∧ windowExpired s.passTime.timeNow s.xt0 s.xtmo = true ∧
      iterate a s = (s.passTime.setFsm .idle).pushReply s.xcmd.cmd (.err .timedOut)) ∨
    (s.fsm = .awaitingResponse ∧ windowExpired s.passTime.timeNow s.xt0 s.xtmo = false ∧
      iterate a s = s.passTime.sleep) := by
  cases hf : s.fsm
  · exact .inl ⟨rfl, iterate_idle hf⟩
  · rw [iterate_awaiting hf]
    rcases loopBody_cases a s with ⟨c, f, ha, hc, h⟩ | ⟨-, h⟩
    · exact .inr (.inl ⟨rfl, c, f, ha, hc, h⟩)
    · rcases checkWindow_cases s with ⟨hw, h'⟩ | ⟨hw, h'⟩
      · exact .inr (.inr (.inl ⟨rfl, hw, h.trans h'⟩))
      · exact .inr (.inr (.inr ⟨rfl, hw, h.trans h'⟩))

/-! ### Typed commands (R260, R320) -/

theorem typedRead_idle {c : Instr} {i : Byte} {d : Decoder} {s : State} (h : s.fsm = .idle) :
    typedRead c i d s = startTransaction ⟨c, .store d⟩ (buildRead i) s.timeout s := whenIdle_idle h

theorem typedRead_awaiting {c : Instr} {i : Byte} {d : Decoder} {s : State} (h : s.fsm = .awaitingResponse) :
    typedRead c i d s = s.pushReply c (.err .busy) := whenIdle_awaiting h

theorem typedWrite_idle {c : Instr} {i : Byte} {v : DataValue} {s : State} (h : s.fsm = .idle) :
    typedWrite c i v s = startTransaction ⟨c, .acknowledge⟩ (buildWrite i v) s.timeout s := whenIdle_idle h

theorem typedWrite_awaiting {c : Instr} {i : Byte} {v : DataValue} {s : State} (h : s.fsm = .awaitingResponse) :
    typedWrite c i v s = s.pushReply c (.err .busy) := whenIdle_awaiting h

theorem setpointWrite_specified {c : Instr} {i : Byte} {t : F32} {v : DataValue} {s : State} (h : s.fsm = .idle)
    (hv : f88FromFloat t = some v) :
    setpointWrite c i t s = startTransaction ⟨c, .acknowledge⟩ (buildWrite i v) s.timeout s := by
  simp [setpointWrite, whenIdle_idle h, hv]

theorem setpointWrite_unspecified {c : Instr} {i : Byte} {t : F32} {s : State} (h : s.fsm = .idle)
    (hv : f88FromFloat t = none) :
    setpointWrite c i t s =
      startTransaction ⟨c, .acknowledge⟩ (buildWrite i (Config.f88Unspecified s.fresh t)) s.timeout s.draw := by
  simp [setpointWrite, whenIdle_idle h, hv]

theorem setpointWrite_awaiting {c : Instr} {i : Byte} {t : F32} {s : State} (h : s.fsm = .awaitingResponse) :
    setpointWrite c i t s = s.pushReply c (.err .busy) := whenIdle_awaiting h

/-- A setpoint write that begins sends one WRITE-DATA request to its id with some value (R320). -/
theorem setpointWrite_cases {c : Instr} {i : Byte} {t : F32} {s : State} (h : s.fsm = .idle) :
    ∃ v u, (u = s ∨ u = s.draw) ∧
      setpointWrite c i t s = startTransaction ⟨c, .acknowledge⟩ (buildWrite i v) s.timeout u := by
  cases hv : f88FromFloat t with
  | some v => exact ⟨v, s, .inl rfl, setpointWrite_specified h hv⟩
  | none => exact ⟨_, s.draw, .inr rfl, setpointWrite_unspecified h hv⟩

/-! ### The host's read of `OUT` (R29, R33) -/

/-- The read finds the value of `OUT`, or comes too early and draws a free value; it does nothing else. -/
theorem hostReadOut_cases (s : State) :
    (s.outWritten = true ∧ hostReadOut s = s.recordRead (.value s.out)) ∨
    (s.outWritten = false ∧ hostReadOut s = s.draw.recordRead (.tooEarly (Config.earlyOut s.fresh))) := by
  cases h : s.outWritten <;> simp [hostReadOut, h]

end Sys2Proof.Machine
end

