-- ==== Sys2Proof/Laws/Exec.lean ====
section
/-! SUPPORT. What `exec` does with each constructor, as the shared operation its meaning calls: one lemma per arm, so that
no later proof unfolds `exec` or a meaning. -/

namespace Sys2Proof.Machine

variable (s : State)

@[simp] theorem exec_pack (msgType : BitVec 3) (dataId : Byte) (dataValue : DataValue) :
    exec (.pack msgType dataId dataValue) s =
      .next (replyOk (.pack msgType dataId dataValue) (.frame (packFrame msgType dataId dataValue)) s) := rfl
@[simp] theorem exec_unpack (frame : Frame) :
    exec (.unpack frame) s = .next (replyOk (.unpack frame) (.fields (unpackFrame frame)) s) := rfl
@[simp] theorem exec_vpar (frame : Frame) :
    exec (.vpar frame) s = .next (replyOk (.vpar frame) (.bit (evenParity frame)) s) := rfl
@[simp] theorem exec_bldrd (dataId : Byte) :
    exec (.bldrd dataId) s = .next (replyOk (.bldrd dataId) (.frame (buildRead dataId)) s) := rfl
@[simp] theorem exec_bldwr (dataId : Byte) (value : DataValue) :
    exec (.bldwr dataId value) s = .next (replyOk (.bldwr dataId value) (.frame (buildWrite dataId value)) s) := rfl
@[simp] theorem exec_menc (frame : Frame) :
    exec (.menc frame) s = .next (replyOk (.menc frame) (.capture (manchesterEncode frame)) s) := rfl
@[simp] theorem exec_f88tof (v : DataValue) :
    exec (.f88tof v) s = .next (replyOk (.f88tof v) (.typed (.f32 (f88ToFloat v))) s) := rfl
@[simp] theorem exec_getu16 (frame : Frame) :
    exec (.getu16 frame) s = .next (replyOk (.getu16 frame) (.typed (.u16 (getU16 frame))) s) := rfl
@[simp] theorem exec_gets16 (frame : Frame) :
    exec (.gets16 frame) s = .next (replyOk (.gets16 frame) (.typed (.s16 (getS16 frame))) s) := rfl
@[simp] theorem exec_getf88 (frame : Frame) :
    exec (.getf88 frame) s = .next (replyOk (.getf88 frame) (.typed (.f32 (getF88 frame))) s) := rfl
@[simp] theorem exec_decu8u8 (v : DataValue) :
    exec (.decu8u8 v) s = .next (replyOk (.decu8u8 v) (.typed (.bytes (decodeU8U8 v).1 (decodeU8U8 v).2)) s) := rfl
@[simp] theorem exec_encu8u8 (hb : Byte) (lb : Byte) :
    exec (.encu8u8 hb lb) s = .next (replyOk (.encu8u8 hb lb) (.typed (.u16 (encodeU8U8 hb lb))) s) := rfl
@[simp] theorem exec_decstatus (v : DataValue) :
    exec (.decstatus v) s = .next (replyOk (.decstatus v) (.typed (.status (decodeStatus v))) s) := rfl
@[simp] theorem exec_encstatus (r : Status) :
    exec (.encstatus r) s = .next (replyOk (.encstatus r) (.typed (.u16 (encodeStatus r))) s) := rfl
@[simp] theorem exec_decmcfg (v : DataValue) :
    exec (.decmcfg v) s = .next (replyOk (.decmcfg v) (.typed (.config (decodeMasterConfig v))) s) := rfl
@[simp] theorem exec_decscfg (v : DataValue) :
    exec (.decscfg v) s = .next (replyOk (.decscfg v) (.typed (.config (decodeSlaveConfig v))) s) := rfl
@[simp] theorem exec_enccfg (r : ConfigFlags) :
    exec (.enccfg r) s = .next (replyOk (.enccfg r) (.typed (.u16 (encodeConfig r))) s) := rfl
@[simp] theorem exec_decfault (v : DataValue) :
    exec (.decfault v) s = .next (replyOk (.decfault v) (.typed (.fault (decodeFault v))) s) := rfl
@[simp] theorem exec_encfault (r : FaultFlags) :
    exec (.encfault r) s = .next (replyOk (.encfault r) (.typed (.u16 (encodeFault r))) s) := rfl
@[simp] theorem exec_decrp (v : DataValue) :
    exec (.decrp v) s = .next (replyOk (.decrp v) (.typed (.remoteParams (decodeRemoteParams v))) s) := rfl
@[simp] theorem exec_dectime (v : DataValue) :
    exec (.dectime v) s = .next (replyOk (.dectime v) (.typed (.time (decodeTime v))) s) := rfl
@[simp] theorem exec_enctime (r : TimeOfDay) :
    exec (.enctime r) s = .next (replyOk (.enctime r) (.typed (.u16 (encodeTime r))) s) := rfl
@[simp] theorem exec_decdate (v : DataValue) :
    exec (.decdate v) s = .next (replyOk (.decdate v) (.typed (.date (decodeDate v))) s) := rfl
@[simp] theorem exec_encdate (r : CalendarDate) :
    exec (.encdate r) s = .next (replyOk (.encdate r) (.typed (.u16 (encodeDate r))) s) := rfl
@[simp] theorem exec_xact (request : Frame) (timeout : Millis) :
    exec (.xact request timeout) s =
      .next (whenIdle (.xact request timeout) s (startTransaction ⟨.xact request timeout, .replyFrame⟩ request timeout)) := rfl
@[simp] theorem exec_settmo (ms : Millis) :
    exec (.settmo ms) s = .next (whenIdle (.settmo ms) s fun s => replyOk (.settmo ms) .none (s.setTimeout ms)) := rfl
@[simp] theorem exec_rdStatus :
    exec .rdStatus s = .next (typedRead .rdStatus 0#8 .status s) := rfl
@[simp] theorem exec_rdControlSetpoint :
    exec .rdControlSetpoint s = .next (typedRead .rdControlSetpoint 1#8 .f88 s) := rfl
@[simp] theorem exec_rdMasterConfig :
    exec .rdMasterConfig s = .next (typedRead .rdMasterConfig 2#8 .masterConfig s) := rfl
@[simp] theorem exec_rdSlaveConfig :
    exec .rdSlaveConfig s = .next (typedRead .rdSlaveConfig 3#8 .slaveConfig s) := rfl
@[simp] theorem exec_rdFault :
    exec .rdFault s = .next (typedRead .rdFault 5#8 .fault s) := rfl
@[simp] theorem exec_rdRemoteParams :
    exec .rdRemoteParams s = .next (typedRead .rdRemoteParams 6#8 .remoteParams s) := rfl
@[simp] theorem exec_rdMaxRelMod :
    exec .rdMaxRelMod s = .next (typedRead .rdMaxRelMod 14#8 .f88 s) := rfl
@[simp] theorem exec_rdMaxCapacity :
    exec .rdMaxCapacity s = .next (typedRead .rdMaxCapacity 15#8 .u8u8 s) := rfl
@[simp] theorem exec_rdRoomSetpoint :
    exec .rdRoomSetpoint s = .next (typedRead .rdRoomSetpoint 16#8 .f88 s) := rfl
@[simp] theorem exec_rdRelMod :
    exec .rdRelMod s = .next (typedRead .rdRelMod 17#8 .f88 s) := rfl
@[simp] theorem exec_rdChPressure :
    exec .rdChPressure s = .next (typedRead .rdChPressure 18#8 .f88 s) := rfl
@[simp] theorem exec_rdDhwFlow :
    exec .rdDhwFlow s = .next (typedRead .rdDhwFlow 19#8 .f88 s) := rfl
@[simp] theorem exec_rdDaytime :
    exec .rdDaytime s = .next (typedRead .rdDaytime 20#8 .time s) := rfl
@[simp] theorem exec_rdDate :
    exec .rdDate s = .next (typedRead .rdDate 21#8 .date s) := rfl
@[simp] theorem exec_rdYear :
    exec .rdYear s = .next (typedRead .rdYear 22#8 .u16 s) := rfl
@[simp] theorem exec_rdRoomTemp :
    exec .rdRoomTemp s = .next (typedRead .rdRoomTemp 24#8 .f88 s) := rfl
@[simp] theorem exec_rdBoilerTemp :
    exec .rdBoilerTemp s = .next (typedRead .rdBoilerTemp 25#8 .f88 s) := rfl
@[simp] theorem exec_rdDhwTemp :
    exec .rdDhwTemp s = .next (typedRead .rdDhwTemp 26#8 .f88 s) := rfl
@[simp] theorem exec_rdOutsideTemp :
    exec .rdOutsideTemp s = .next (typedRead .rdOutsideTemp 27#8 .f88 s) := rfl
@[simp] theorem exec_rdReturnTemp :
    exec .rdReturnTemp s = .next (typedRead .rdReturnTemp 28#8 .f88 s) := rfl
@[simp] theorem exec_rdExhaustTemp :
    exec .rdExhaustTemp s = .next (typedRead .rdExhaustTemp 33#8 .s16 s) := rfl
@[simp] theorem exec_rdDhwBounds :
    exec .rdDhwBounds s = .next (typedRead .rdDhwBounds 48#8 .u8u8 s) := rfl
@[simp] theorem exec_rdChBounds :
    exec .rdChBounds s = .next (typedRead .rdChBounds 49#8 .u8u8 s) := rfl
@[simp] theorem exec_rdDhwSetpoint :
    exec .rdDhwSetpoint s = .next (typedRead .rdDhwSetpoint 56#8 .f88 s) := rfl
@[simp] theorem exec_rdMaxChSetpoint :
    exec .rdMaxChSetpoint s = .next (typedRead .rdMaxChSetpoint 57#8 .f88 s) := rfl
@[simp] theorem exec_rdOemDiag :
    exec .rdOemDiag s = .next (typedRead .rdOemDiag 115#8 .u16 s) := rfl
@[simp] theorem exec_rdCounter116 :
    exec .rdCounter116 s = .next (typedRead .rdCounter116 116#8 .u16 s) := rfl
@[simp] theorem exec_rdCounter117 :
    exec .rdCounter117 s = .next (typedRead .rdCounter117 117#8 .u16 s) := rfl
@[simp] theorem exec_rdCounter118 :
    exec .rdCounter118 s = .next (typedRead .rdCounter118 118#8 .u16 s) := rfl
@[simp] theorem exec_rdCounter119 :
    exec .rdCounter119 s = .next (typedRead .rdCounter119 119#8 .u16 s) := rfl
@[simp] theorem exec_rdCounter120 :
    exec .rdCounter120 s = .next (typedRead .rdCounter120 120#8 .u16 s) := rfl
@[simp] theorem exec_rdCounter121 :
    exec .rdCounter121 s = .next (typedRead .rdCounter121 121#8 .u16 s) := rfl
@[simp] theorem exec_rdCounter122 :
    exec .rdCounter122 s = .next (typedRead .rdCounter122 122#8 .u16 s) := rfl
@[simp] theorem exec_rdCounter123 :
    exec .rdCounter123 s = .next (typedRead .rdCounter123 123#8 .u16 s) := rfl
@[simp] theorem exec_rdOtVersion :
    exec .rdOtVersion s = .next (typedRead .rdOtVersion 124#8 .f88 s) := rfl
@[simp] theorem exec_rdVersion125 :
    exec .rdVersion125 s = .next (typedRead .rdVersion125 125#8 .u8u8 s) := rfl
@[simp] theorem exec_rdVersion126 :
    exec .rdVersion126 s = .next (typedRead .rdVersion126 126#8 .u8u8 s) := rfl
@[simp] theorem exec_rdVersion127 :
    exec .rdVersion127 s = .next (typedRead .rdVersion127 127#8 .u8u8 s) := rfl
@[simp] theorem exec_wrControlSetpoint (t : F32) :
    exec (.wrControlSetpoint t) s = .next (setpointWrite (.wrControlSetpoint t) 1#8 t s) := rfl
@[simp] theorem exec_wrRoomSetpoint (t : F32) :
    exec (.wrRoomSetpoint t) s = .next (setpointWrite (.wrRoomSetpoint t) 16#8 t s) := rfl
@[simp] theorem exec_wrDhwSetpoint (t : F32) :
    exec (.wrDhwSetpoint t) s = .next (setpointWrite (.wrDhwSetpoint t) 56#8 t s) := rfl
@[simp] theorem exec_wrMaxChSetpoint (t : F32) :
    exec (.wrMaxChSetpoint t) s = .next (setpointWrite (.wrMaxChSetpoint t) 57#8 t s) := rfl
@[simp] theorem exec_wrChDhwEnable (ch : Bool) (dhw : Bool) :
    exec (.wrChDhwEnable ch dhw) s =
      .next (typedWrite (.wrChDhwEnable ch dhw) 0#8 (encodeStatus (enableStatus ch dhw)) s) := rfl
@[simp] theorem exec_wrDaytime (r : TimeOfDay) :
    exec (.wrDaytime r) s = .next (typedWrite (.wrDaytime r) 20#8 (encodeTime r) s) := rfl
@[simp] theorem exec_wrDate (r : CalendarDate) :
    exec (.wrDate r) s = .next (typedWrite (.wrDate r) 21#8 (encodeDate r) s) := rfl
@[simp] theorem exec_wrYear (y : DataValue) :
    exec (.wrYear y) s = .next (typedWrite (.wrYear y) 22#8 y s) := rfl
@[simp] theorem exec_frameReadData (parity : Bool) (spare : BitVec 4) (dataId : Byte) (dataValue : DataValue) :
    exec (.frameReadData parity spare dataId dataValue) s =
      .next (receiveFrame (frameWord parity 0#3 spare dataId dataValue) s) := rfl
@[simp] theorem exec_frameWriteData (parity : Bool) (spare : BitVec 4) (dataId : Byte) (dataValue : DataValue) :
    exec (.frameWriteData parity spare dataId dataValue) s =
      .next (receiveFrame (frameWord parity 1#3 spare dataId dataValue) s) := rfl
@[simp] theorem exec_frameInvalidData (parity : Bool) (spare : BitVec 4) (dataId : Byte) (dataValue : DataValue) :
    exec (.frameInvalidData parity spare dataId dataValue) s =
      .next (receiveFrame (frameWord parity 2#3 spare dataId dataValue) s) := rfl
@[simp] theorem exec_frameReserved (parity : Bool) (spare : BitVec 4) (dataId : Byte) (dataValue : DataValue) :
    exec (.frameReserved parity spare dataId dataValue) s =
      .next (receiveFrame (frameWord parity 3#3 spare dataId dataValue) s) := rfl
@[simp] theorem exec_frameReadAck (parity : Bool) (spare : BitVec 4) (dataId : Byte) (dataValue : DataValue) :
    exec (.frameReadAck parity spare dataId dataValue) s =
      .next (receiveFrame (frameWord parity 4#3 spare dataId dataValue) s) := rfl
@[simp] theorem exec_frameWriteAck (parity : Bool) (spare : BitVec 4) (dataId : Byte) (dataValue : DataValue) :
    exec (.frameWriteAck parity spare dataId dataValue) s =
      .next (receiveFrame (frameWord parity 5#3 spare dataId dataValue) s) := rfl
@[simp] theorem exec_frameDataInvalid (parity : Bool) (spare : BitVec 4) (dataId : Byte) (dataValue : DataValue) :
    exec (.frameDataInvalid parity spare dataId dataValue) s =
      .next (receiveFrame (frameWord parity 6#3 spare dataId dataValue) s) := rfl
@[simp] theorem exec_frameUnknownDataid (parity : Bool) (spare : BitVec 4) (dataId : Byte) (dataValue : DataValue) :
    exec (.frameUnknownDataid parity spare dataId dataValue) s =
      .next (receiveFrame (frameWord parity 7#3 spare dataId dataValue) s) := rfl

theorem exec_mdec_ok {c : Capture} {f : Frame} (h : manchesterDecode c = .ok f) :
    exec (.mdec c) s = .next (replyOk (.mdec c) (.frame f) s) := by simp [exec, execMdec, h]

theorem exec_mdec_error {c : Capture} {e : Err} (h : manchesterDecode c = .error e) :
    exec (.mdec c) s = .next (raiseError e (.mdec c) s) := by simp [exec, execMdec, h]

theorem exec_f88fromf_some {x : F32} {v : DataValue} (h : f88FromFloat x = some v) :
    exec (.f88fromf x) s = .next (replyOk (.f88fromf x) (.typed (.u16 v)) s) := by simp [exec, execF88fromf, h]

theorem exec_f88fromf_none {x : F32} (h : f88FromFloat x = none) :
    exec (.f88fromf x) s =
      .next (replyOk (.f88fromf x) (.typed (.u16 (Config.f88Unspecified s.fresh x))) s.draw) := by
  simp [exec, execF88fromf, h]

/-- Whatever its message type, a frame on the line is the engine's poll that returns a capture of it (log 1). -/
theorem exec_decodeWire (f : Frame) : exec (decodeWire f) s = .next (iterate (some (manchesterEncode f)) s) := by
  have row : ∀ m : BitVec 3, frameMsgType f = m →
      receiveFrame (frameWord (frameParity f) m (frameSpare f) (frameDataId f) (frameDataValue f)) s =
        iterate (some (manchesterEncode f)) s := by
    intro m hm; rw [← hm, frameWord_fields]; rfl
  unfold decodeWire
  split
  case h_1 h => rw [exec_frameReadData, row 0#3 (BitVec.eq_of_toNat_eq h)]
  case h_2 h => rw [exec_frameWriteData, row 1#3 (BitVec.eq_of_toNat_eq h)]
  case h_3 h => rw [exec_frameInvalidData, row 2#3 (BitVec.eq_of_toNat_eq h)]
  case h_4 h => rw [exec_frameReserved, row 3#3 (BitVec.eq_of_toNat_eq h)]
  case h_5 h => rw [exec_frameReadAck, row 4#3 (BitVec.eq_of_toNat_eq h)]
  case h_6 h => rw [exec_frameWriteAck, row 5#3 (BitVec.eq_of_toNat_eq h)]
  case h_7 h => rw [exec_frameDataInvalid, row 6#3 (BitVec.eq_of_toNat_eq h)]
  case h_8 =>
    have h := (frameMsgType f).isLt
    simp only [imp_false] at *
    rw [exec_frameUnknownDataid, row 7#3 (BitVec.eq_of_toNat_eq (show _ = 7 by omega))]

/-- How a command that needs a transaction begins in `Idle` (R232): it starts one on `s`, or past a free value for a
setpoint whose f8.8 value is unspecified, with its own timeout, and so that success replies what R351 says. -/
def Starts (i : Instr) (s : State) : Prop :=
  ∃ x r u, (u = s ∨ u = s.draw) ∧ x.cmd = i ∧
    (∀ (t : State) f, t.xcmd = x → (t.succeeded f).replies = ⟨i, okAnswer i f⟩ :: t.replies) ∧
    exec i s = .next (startTransaction x r (timeoutOf i s) u)

theorem starts_xact {r : Frame} {m : Millis} {s : State} (hs : s.fsm = .idle) : Starts (.xact r m) s :=
  ⟨⟨.xact r m, .replyFrame⟩, r, s, .inl rfl, rfl, fun t f h => by simp [State.succeeded, h, okAnswer],
    by rw [exec_xact, whenIdle_idle hs]; rfl⟩

theorem starts_read {i : Instr} {d : Byte} {dec : Decoder} {s : State} (hs : s.fsm = .idle)
    (he : exec i s = .next (typedRead i d dec s)) (ht : timeoutOf i s = s.timeout)
    (ho : ∀ f, okAnswer i f = .ok .none) : Starts i s :=
  ⟨⟨i, .store dec⟩, _, s, .inl rfl, rfl, fun t f h => by simp [State.succeeded, h, ho], by rw [he, typedRead_idle hs, ht]⟩

theorem starts_write {i : Instr} {d : Byte} {v : DataValue} {s : State} (hs : s.fsm = .idle)
    (he : exec i s = .next (typedWrite i d v s)) (ht : timeoutOf i s = s.timeout)
    (ho : ∀ f, okAnswer i f = .ok .none) : Starts i s :=
  ⟨⟨i, .acknowledge⟩, _, s, .inl rfl, rfl, fun t f h => by simp [State.succeeded, h, ho], by rw [he, typedWrite_idle hs, ht]⟩

theorem starts_setpoint {i : Instr} {d : Byte} {x : F32} {s : State} (hs : s.fsm = .idle)
    (he : exec i s = .next (setpointWrite i d x s)) (ht : timeoutOf i s = s.timeout)
    (ho : ∀ f, okAnswer i f = .ok .none) : Starts i s := by
  obtain ⟨v, u, hu, h⟩ := setpointWrite_cases (c := i) (i := d) (t := x) hs
  exact ⟨⟨i, .acknowledge⟩, _, u, hu, rfl, fun t f h => by simp [State.succeeded, h, ho], by rw [he, h, ht]⟩

/-- Every command that needs a transaction starts it in the same way. -/
theorem exec_startsTransaction {i : Instr} {s : State} (hi : startsTransaction i = true) (hs : s.fsm = .idle) :
    Starts i s := by
  cases i
  all_goals first
    | exact (Bool.false_ne_true hi).elim
    | skip
  case xact => exact starts_xact hs
  case wrControlSetpoint => exact starts_setpoint hs (exec_wrControlSetpoint s _) rfl fun _ => rfl
  case wrRoomSetpoint => exact starts_setpoint hs (exec_wrRoomSetpoint s _) rfl fun _ => rfl
  case wrDhwSetpoint => exact starts_setpoint hs (exec_wrDhwSetpoint s _) rfl fun _ => rfl
  case wrMaxChSetpoint => exact starts_setpoint hs (exec_wrMaxChSetpoint s _) rfl fun _ => rfl
  case wrChDhwEnable => exact starts_write hs (exec_wrChDhwEnable s _ _) rfl fun _ => rfl
  case wrDaytime => exact starts_write hs (exec_wrDaytime s _) rfl fun _ => rfl
  case wrDate => exact starts_write hs (exec_wrDate s _) rfl fun _ => rfl
  case wrYear => exact starts_write hs (exec_wrYear s _) rfl fun _ => rfl
  all_goals exact starts_read hs rfl rfl fun _ => rfl

end Sys2Proof.Machine
end

