-- ==== Sys2Proof/Laws/PerInstr.lean ====
section
/-! SUPPORT. The statement made of every instruction, one lemma per constructor: its encoding is a packet the ports
accept (R21, R61, R80, R101). -/

namespace Sys2Proof.Laws.EncodingWellFormed

open Sys2Proof

/-- The packet of an instruction is well formed: an assigned selector and the operand bytes of its fields. -/
def Statement (i : Instr) : Prop := (encode i).wellFormed = true

theorem fields1 {w : Nat} (hw : 0 < w) (v : BitVec w) : fieldsFit [w] (putField v) = true :=
  fieldsFit_putField_last hw v

theorem fields2 {w w' : Nat} (hw : 0 < w) (hw' : 0 < w') (v : BitVec w) (v' : BitVec w') :
    fieldsFit [w, w'] (putField v ++ putField v') = true :=
  (fieldsFit_putField hw v _ _).trans (fields1 hw' v')

theorem fields3 {w w' w'' : Nat} (hw : 0 < w) (hw' : 0 < w') (hw'' : 0 < w'') (v : BitVec w) (v' : BitVec w')
    (v'' : BitVec w'') : fieldsFit [w, w', w''] (putField v ++ (putField v' ++ putField v'')) = true :=
  (fieldsFit_putField hw v _ _).trans (fields2 hw' hw'' v' v'')

theorem fieldsConfig (r : ConfigFlags) : fieldsFit [1, 1, 1, 1, 1, 1] (putConfigFlags r) = true := by
  simp only [putConfigFlags, fieldsFit_putFlag, fieldsFit_putFlag_last]

theorem fieldsFault (r : FaultFlags) : fieldsFit [8, 1, 1, 1, 1, 1, 1] (putFaultFlags r) = true :=
  (fieldsFit_putField (by norm_num) _ _ _).trans (by simp only [fieldsFit_putFlag, fieldsFit_putFlag_last])

theorem fieldsStatus (r : Status) : fieldsFit [1, 1, 1, 1, 1, 1, 1, 1, 1, 1, 1, 1] (putStatus r) = true := by
  simp only [putStatus, fieldsFit_putFlag, fieldsFit_putFlag_last]

theorem pack (msgType : BitVec 3) (dataId : Byte) (dataValue : DataValue) : Statement (.pack msgType dataId dataValue) :=
  fields3 (by norm_num) (by norm_num) (by norm_num) msgType dataId dataValue
theorem unpack (frame : Frame) : Statement (.unpack frame) :=
  fields1 (by norm_num) frame
theorem vpar (frame : Frame) : Statement (.vpar frame) :=
  fields1 (by norm_num) frame
theorem bldrd (dataId : Byte) : Statement (.bldrd dataId) :=
  fields1 (by norm_num) dataId
theorem bldwr (dataId : Byte) (value : DataValue) : Statement (.bldwr dataId value) :=
  fields2 (by norm_num) (by norm_num) dataId value
theorem mdec (capture : Capture) : Statement (.mdec capture) :=
  fields1 (by norm_num) capture
theorem menc (frame : Frame) : Statement (.menc frame) :=
  fields1 (by norm_num) frame
theorem f88tof (v : DataValue) : Statement (.f88tof v) :=
  fields1 (by norm_num) v
theorem f88fromf (x : F32) : Statement (.f88fromf x) :=
  fields1 (by norm_num) x
theorem getu16 (frame : Frame) : Statement (.getu16 frame) :=
  fields1 (by norm_num) frame
theorem gets16 (frame : Frame) : Statement (.gets16 frame) :=
  fields1 (by norm_num) frame
theorem getf88 (frame : Frame) : Statement (.getf88 frame) :=
  fields1 (by norm_num) frame
theorem decu8u8 (v : DataValue) : Statement (.decu8u8 v) :=
  fields1 (by norm_num) v
theorem encu8u8 (hb : Byte) (lb : Byte) : Statement (.encu8u8 hb lb) :=
  fields2 (by norm_num) (by norm_num) hb lb
theorem decstatus (v : DataValue) : Statement (.decstatus v) :=
  fields1 (by norm_num) v
theorem encstatus (r : Status) : Statement (.encstatus r) :=
  fieldsStatus r
theorem decmcfg (v : DataValue) : Statement (.decmcfg v) :=
  fields1 (by norm_num) v
theorem decscfg (v : DataValue) : Statement (.decscfg v) :=
  fields1 (by norm_num) v
theorem enccfg (r : ConfigFlags) : Statement (.enccfg r) :=
  fieldsConfig r
theorem decfault (v : DataValue) : Statement (.decfault v) :=
  fields1 (by norm_num) v
theorem encfault (r : FaultFlags) : Statement (.encfault r) :=
  fieldsFault r
theorem decrp (v : DataValue) : Statement (.decrp v) :=
  fields1 (by norm_num) v
theorem dectime (v : DataValue) : Statement (.dectime v) :=
  fields1 (by norm_num) v
theorem enctime (r : TimeOfDay) : Statement (.enctime r) :=
  fields3 (by norm_num) (by norm_num) (by norm_num) r.dayOfWeek r.hour r.minute
theorem decdate (v : DataValue) : Statement (.decdate v) :=
  fields1 (by norm_num) v
theorem encdate (r : CalendarDate) : Statement (.encdate r) :=
  fields2 (by norm_num) (by norm_num) r.month r.day
theorem xact (request : Frame) (timeout : Millis) : Statement (.xact request timeout) :=
  fields2 (by norm_num) (by norm_num) request timeout
theorem settmo (ms : Millis) : Statement (.settmo ms) :=
  fields1 (by norm_num) ms
theorem wrControlSetpoint (t : F32) : Statement (.wrControlSetpoint t) :=
  fields1 (by norm_num) t
theorem wrRoomSetpoint (t : F32) : Statement (.wrRoomSetpoint t) :=
  fields1 (by norm_num) t
theorem wrDhwSetpoint (t : F32) : Statement (.wrDhwSetpoint t) :=
  fields1 (by norm_num) t
theorem wrMaxChSetpoint (t : F32) : Statement (.wrMaxChSetpoint t) :=
  fields1 (by norm_num) t
theorem wrChDhwEnable (ch : Bool) (dhw : Bool) : Statement (.wrChDhwEnable ch dhw) :=
  fields2 (by norm_num) (by norm_num) (BitVec.ofBool ch) (BitVec.ofBool dhw)
theorem wrDaytime (r : TimeOfDay) : Statement (.wrDaytime r) :=
  fields3 (by norm_num) (by norm_num) (by norm_num) r.dayOfWeek r.hour r.minute
theorem wrDate (r : CalendarDate) : Statement (.wrDate r) :=
  fields2 (by norm_num) (by norm_num) r.month r.day
theorem wrYear (y : DataValue) : Statement (.wrYear y) :=
  fields1 (by norm_num) y
theorem rdStatus : Statement (.rdStatus) := rfl
theorem rdControlSetpoint : Statement (.rdControlSetpoint) := rfl
theorem rdMasterConfig : Statement (.rdMasterConfig) := rfl
theorem rdSlaveConfig : Statement (.rdSlaveConfig) := rfl
theorem rdFault : Statement (.rdFault) := rfl
theorem rdRemoteParams : Statement (.rdRemoteParams) := rfl
theorem rdMaxRelMod : Statement (.rdMaxRelMod) := rfl
theorem rdMaxCapacity : Statement (.rdMaxCapacity) := rfl
theorem rdRoomSetpoint : Statement (.rdRoomSetpoint) := rfl
theorem rdRelMod : Statement (.rdRelMod) := rfl
theorem rdChPressure : Statement (.rdChPressure) := rfl
theorem rdDhwFlow : Statement (.rdDhwFlow) := rfl
theorem rdDaytime : Statement (.rdDaytime) := rfl
theorem rdDate : Statement (.rdDate) := rfl
theorem rdYear : Statement (.rdYear) := rfl
theorem rdRoomTemp : Statement (.rdRoomTemp) := rfl
theorem rdBoilerTemp : Statement (.rdBoilerTemp) := rfl
theorem rdDhwTemp : Statement (.rdDhwTemp) := rfl
theorem rdOutsideTemp : Statement (.rdOutsideTemp) := rfl
theorem rdReturnTemp : Statement (.rdReturnTemp) := rfl
theorem rdExhaustTemp : Statement (.rdExhaustTemp) := rfl
theorem rdDhwBounds : Statement (.rdDhwBounds) := rfl
theorem rdChBounds : Statement (.rdChBounds) := rfl
theorem rdDhwSetpoint : Statement (.rdDhwSetpoint) := rfl
theorem rdMaxChSetpoint : Statement (.rdMaxChSetpoint) := rfl
theorem rdOemDiag : Statement (.rdOemDiag) := rfl
theorem rdCounter116 : Statement (.rdCounter116) := rfl
theorem rdCounter117 : Statement (.rdCounter117) := rfl
theorem rdCounter118 : Statement (.rdCounter118) := rfl
theorem rdCounter119 : Statement (.rdCounter119) := rfl
theorem rdCounter120 : Statement (.rdCounter120) := rfl
theorem rdCounter121 : Statement (.rdCounter121) := rfl
theorem rdCounter122 : Statement (.rdCounter122) := rfl
theorem rdCounter123 : Statement (.rdCounter123) := rfl
theorem rdOtVersion : Statement (.rdOtVersion) := rfl
theorem rdVersion125 : Statement (.rdVersion125) := rfl
theorem rdVersion126 : Statement (.rdVersion126) := rfl
theorem rdVersion127 : Statement (.rdVersion127) := rfl
theorem frameReadData (parity : Bool) (spare : BitVec 4) (dataId : Byte) (dataValue : DataValue) : Statement (.frameReadData parity spare dataId dataValue) :=
  rfl
theorem frameWriteData (parity : Bool) (spare : BitVec 4) (dataId : Byte) (dataValue : DataValue) : Statement (.frameWriteData parity spare dataId dataValue) :=
  rfl
theorem frameInvalidData (parity : Bool) (spare : BitVec 4) (dataId : Byte) (dataValue : DataValue) : Statement (.frameInvalidData parity spare dataId dataValue) :=
  rfl
theorem frameReserved (parity : Bool) (spare : BitVec 4) (dataId : Byte) (dataValue : DataValue) : Statement (.frameReserved parity spare dataId dataValue) :=
  rfl
theorem frameReadAck (parity : Bool) (spare : BitVec 4) (dataId : Byte) (dataValue : DataValue) : Statement (.frameReadAck parity spare dataId dataValue) :=
  rfl
theorem frameWriteAck (parity : Bool) (spare : BitVec 4) (dataId : Byte) (dataValue : DataValue) : Statement (.frameWriteAck parity spare dataId dataValue) :=
  rfl
theorem frameDataInvalid (parity : Bool) (spare : BitVec 4) (dataId : Byte) (dataValue : DataValue) : Statement (.frameDataInvalid parity spare dataId dataValue) :=
  rfl
theorem frameUnknownDataid (parity : Bool) (spare : BitVec 4) (dataId : Byte) (dataValue : DataValue) : Statement (.frameUnknownDataid parity spare dataId dataValue) :=
  rfl

end Sys2Proof.Laws.EncodingWellFormed
end

