-- ==== Sys2Proof/Laws/Step.lean ====
section
/-! SUPPORT. Everything a step can do, said once: later proofs cite these and never unfold `nextAction` or `step`. -/

namespace Sys2Proof.Machine

/-! ### Presenting a packet -/

theorem presentPacket_ok {p : Packet} {i : Instr} (s : State) (h : decode p = .ok i) :
    presentPacket p s = .run i s := by simp [presentPacket, h]

/-- A packet is run, dropped without a change (an unassigned selector, R101), or refused. -/
theorem presentPacket_cases (p : Packet) (s : State) :
    (∃ i, decode p = .ok i ∧ presentPacket p s = .run i s) ∨
    (∃ op, decode p = .error (.unassignedSelector op) ∧ presentPacket p s = .done (.next s)) ∨
    (∃ e, decode p = .error e ∧ (∀ op, e ≠ .unassignedSelector op) ∧
      presentPacket p s = .done (.refused (.notPresentable e))) := by
  cases h : decode p with
  | ok i => exact .inl ⟨i, rfl, presentPacket_ok s h⟩
  | error e =>
    cases e with
    | unassignedSelector op => exact .inr (.inl ⟨op, rfl, by simp [presentPacket, h]⟩)
    | emptyRequest => exact .inr (.inr ⟨_, rfl, by simp, by simp [presentPacket, h]⟩)
    | truncated => exact .inr (.inr ⟨_, rfl, by simp, by simp [presentPacket, h]⟩)
    | operandTooWide => exact .inr (.inr ⟨_, rfl, by simp, by simp [presentPacket, h]⟩)
    | trailingBytes => exact .inr (.inr ⟨_, rfl, by simp, by simp [presentPacket, h]⟩)

/-- A frame on the wire is always run. -/
theorem presentPacket_wire (f : Frame) (s : State) : presentPacket (.wire f) s = .run (decodeWire f) s := rfl

/-! ### One step -/

/-- Every way a step can give a next state: it runs the command of a request or the row of a frame on the state without
the move it took, drops an unassigned selector, stutters in `Idle`, makes an engine step on a free or on a scripted answer,
resets, or answers the host's read of `OUT`. -/
theorem step_cases {s t : State} (h : step s = .next t) :
    (∃ waits bytes rest i, s.inputs = .request waits bytes :: rest ∧ decode (.request bytes) = .ok i ∧
      exec i s.popInput = .next t) ∨
    (∃ f rest, s.inputs = .wire f :: rest ∧ exec (decodeWire f) s.popInput = .next t) ∨
    ((∃ waits bytes rest op, s.inputs = .request waits bytes :: rest ∧
      decode (.request bytes) = .error (.unassignedSelector op)) ∧ t = s.popInput) ∨
    (s.inputs = [] ∧ s.fsm = .idle ∧ t = s) ∨
    (s.fsm = .awaitingResponse ∧ (s.inputs = [] ∨ ∃ bytes rest, s.inputs = .request true bytes :: rest) ∧
      t = iterateFree s) ∨
    (∃ a rest, s.inputs = .poll a :: rest ∧ t = iterate a s.popInput) ∨
    (∃ rest, s.inputs = .reset :: rest ∧ t = s.popInput.resetBlock) ∨
    (∃ rest, s.inputs = .readOut :: rest ∧ t = hostReadOut s.popInput) := by
  rcases hin : s.inputs with _ | ⟨i, rest⟩
  · have hs : step s = .next (stepWithoutInput s) := by simp [step, nextAction, hin, perform]
    rw [h] at hs
    unfold stepWithoutInput at hs
    cases hf : s.fsm <;> rw [hf] at hs <;> cases hs
    · exact .inr (.inr (.inr (.inl ⟨rfl, rfl, rfl⟩)))
    · exact .inr (.inr (.inr (.inr (.inl ⟨rfl, .inl rfl, rfl⟩))))
  · have hreq : ∀ waits bytes, i = .request waits bytes →
        step s = perform (presentPacket (.request bytes) s.popInput) →
        (∃ waits bytes rest' j, (i :: rest) = .request waits bytes :: rest' ∧ decode (.request bytes) = .ok j ∧
          exec j s.popInput = .next t) ∨
        ((∃ op, decode (.request bytes) = .error (.unassignedSelector op)) ∧ t = s.popInput) := by
      intro waits bytes hi hs
      rw [h] at hs
      rcases presentPacket_cases (.request bytes) s.popInput with ⟨j, hd, hr⟩ | ⟨op, ho, hr⟩ | ⟨e, -, -, hr⟩
      · rw [hr] at hs; exact .inl ⟨waits, bytes, rest, j, by rw [hi], hd, hs.symm⟩
      · rw [hr] at hs; cases hs; exact .inr ⟨⟨op, ho⟩, rfl⟩
      · rw [hr] at hs; cases hs
    cases i with
    | request waits bytes =>
      by_cases hw : waits = true ∧ s.fsm = .awaitingResponse
      · have hs : step s = .next (iterateFree s) := by simp [step, nextAction, hin, hw.1, hw.2, perform]
        rw [h] at hs; cases hs
        exact .inr (.inr (.inr (.inr (.inl ⟨hw.2, .inr ⟨bytes, rest, by rw [hw.1]⟩, rfl⟩))))
      · have hs : step s = perform (presentPacket (.request bytes) s.popInput) := by
          cases waits
          · simp [step, nextAction, hin]
          · have hf : s.fsm = .idle := by
              cases hf : s.fsm
              · rfl
              · exact absurd ⟨rfl, hf⟩ hw
            simp [step, nextAction, hin, hf]
        rcases hreq waits bytes rfl hs with h' | ⟨⟨op, ho⟩, h'⟩
        · exact .inl h'
        · exact .inr (.inr (.inl ⟨⟨waits, bytes, rest, op, rfl, ho⟩, h'⟩))
    | wire f =>
      have hs : step s = exec (decodeWire f) s.popInput := by
        simp [step, nextAction, hin, perform, presentPacket_wire]
      rw [h] at hs
      exact .inr (.inl ⟨f, rest, rfl, hs.symm⟩)
    | poll a =>
      have hs : step s = .next (iterate a s.popInput) := by simp [step, nextAction, hin, perform]
      rw [h] at hs; cases hs
      exact .inr (.inr (.inr (.inr (.inr (.inl ⟨a, rest, rfl, rfl⟩)))))
    | readOut =>
      have hs : step s = .next (hostReadOut s.popInput) := by simp [step, nextAction, hin, perform]
      rw [h] at hs; cases hs
      exact .inr (.inr (.inr (.inr (.inr (.inr (.inr ⟨rest, rfl, rfl⟩))))))
    | reset =>
      have hs : step s = .next s.popInput.resetBlock := by simp [step, nextAction, hin, perform]
      rw [h] at hs; cases hs
      exact .inr (.inr (.inr (.inr (.inr (.inr (.inl ⟨rest, rfl, rfl⟩))))))

end Sys2Proof.Machine
end

