-- ==== Sys2Proof/Tests/Slice0.lean ====
section
/-! SUPPORT. Our own tests: ill-formed requests are refused by name, every constructor's decoding from bytes or a word
written out from the spec's encodings, the spec's test vectors (95_test_vectors.md) one step at a time, and a witness
for the hypotheses of each statement. -/

namespace Sys2Proof.Tests

open Sys2Proof Sys2Proof.Machine

-- One theorem after the other: many evaluations in the kernel at once use more memory than the check has.
set_option Elab.async false

/-- Reset, with scripted delays and a poll interval of 10 ms as in the spec's programs. -/
def idleState : State := { State.reset with delays := [3, 0, 0], pollMs := 10, clock := 7 }

/-- `RD_BOILER_TEMP` in flight since time 10, as in program P1. -/
def busyState : State :=
  { idleState.started ⟨.rdBoilerTemp, .store .f88⟩ 0x80190000#32 1000#32 10 with delays := [0, 0] }

/-- The answer of the reply that `exec` adds. -/
def answerOf (i : Instr) (s : State) : Option Answer :=
  match exec i s with
  | .next t => if t.replies.tail = s.replies then t.replies.head?.map (·.answer) else none
  | _ => none

/-- The request that `exec` transmits. -/
def sentBy (i : Instr) (s : State) : Option Frame :=
  match exec i s with
  | .next t => if t.sent.tail = s.sent then t.sent.head? else none
  | _ => none

/-- The outcome is a next state with this property. -/
def nextWith (o : Host.Outcome State Fault Refusal) (p : State → Bool) : Bool :=
  match o with
  | .next t => p t
  | _ => false

/-- What `OUT` holds after the poll that delivers this frame. -/
def outAfter (f : Frame) (s : State) : OutValue := (iterate (some (manchesterEncode f)) s).out

/-! ### Well-formedness: each check refuses an ill-formed request -/

/-- The name under which a request is refused. -/
def refusalOf (bytes : List Byte) : Option DecodeError :=
  match decodeRequest bytes with
  | .ok _ => none
  | .error e => some e

theorem test_refuses_ill_formed : ∀ row ∈ ([
      ([], .emptyRequest),
      ([0x06#8], .unassignedSelector 0x06#8),  -- between FrameCodec and ManchesterCodec
      ([0x84#8], .unassignedSelector 0x84#8),  -- id 4 is not registered
      ([0x05#8, 1#8, 0x41#8], .truncated),
      ([0x80#8, 0#8], .trailingBytes),
      ([0x01#8, 8#8, 0#8, 0#8, 0#8], .operandTooWide),  -- msg_type of 4 bits
      ([0x54#8, 1#8, 2#8], .operandTooWide),  -- a flag of 2 bits
      ([0x10#8, 0x10#8, 0#8, 0#8, 0#8, 0#8, 0#8, 0#8, 0#8, 0#8], .operandTooWide)  -- a capture of 69 samples
    ] : List (List Byte × DecodeError)),
    refusalOf row.1 = some row.2 ∧ requestWellFormed row.1 = false := by decide +kernel

/-! ### Decoding: the selectors of R100 with operand bytes, and the frame words of R80 and R82 -/

theorem test_decode_framecodec : ∀ row ∈ ([
      ([1#8, 1#8, 1#8, 0x41#8, 0x80#8], .pack 1#3 1#8 0x4180#16),
      ([2#8, 0xC0#8, 0x19#8, 0x3A#8, 0x80#8], .unpack 0xC0193A80#32),
      ([3#8, 0x90#8, 1#8, 0x41#8, 0x80#8], .vpar 0x90014180#32), ([4#8, 0x19#8], .bldrd 25#8),
      ([5#8, 1#8, 0x41#8, 0x80#8], .bldwr 1#8 0x4180#16)
    ] : List (List Byte × Instr)), (decodeRequest row.1).toOption = some row.2 := by decide +kernel

theorem test_decode_manchester : ∀ row ∈ ([
      ([0x10#8, 0x0A#8, 0x96#8, 0x55#8, 0x95#8, 0x55#8, 0x66#8, 0x55#8, 0x69#8, 0x56#8], .mdec 0xA9655955566556956#68),
      ([0x11#8, 0x80#8, 0x19#8, 0#8, 0#8], .menc 0x80190000#32)
    ] : List (List Byte × Instr)), (decodeRequest row.1).toOption = some row.2 := by decide +kernel

theorem test_decode_numeric : ∀ row ∈ ([
      ([0x20#8, 0x41#8, 0x80#8], .f88tof 0x4180#16), ([0x21#8, 0x42#8, 0x83#8, 0#8, 0#8], .f88fromf 0x42830000#32),
      ([0x22#8, 0xC0#8, 0x19#8, 0x3A#8, 0x80#8], .getu16 0xC0193A80#32),
      ([0x23#8, 0xC0#8, 0x21#8, 0xFF#8, 0xF6#8], .gets16 0xC021FFF6#32),
      ([0x24#8, 0xC0#8, 0x19#8, 0x3A#8, 0x80#8], .getf88 0xC0193A80#32)
    ] : List (List Byte × Instr)), (decodeRequest row.1).toOption = some row.2 := by decide +kernel

theorem test_decode_records : ∀ row ∈ ([
      ([0x30#8, 0x3C#8, 0x28#8], .decu8u8 0x3C28#16), ([0x31#8, 0x3C#8, 0x28#8], .encu8u8 60#8 40#8),
      ([0x32#8, 3#8, 0x0A#8], .decstatus 0x030A#16),
      ([0x33#8, 1#8, 0#8, 0#8, 0#8, 0#8, 0#8, 0#8, 0#8, 0#8, 0#8, 0#8, 1#8],
        .encstatus ⟨true, false, false, false, false, false, false, false, false, false, false, true⟩),
      ([0x34#8, 0x21#8, 0#8], .decmcfg 0x2100#16), ([0x35#8, 0x0B#8, 0#8], .decscfg 0x0B00#16),
      ([0x36#8, 1#8, 0#8, 0#8, 0#8, 0#8, 0#8], .enccfg ⟨true, false, false, false, false, false⟩),
      ([0x37#8, 0x85#8, 9#8], .decfault 0x8509#16),
      ([0x38#8, 0x85#8, 1#8, 0#8, 0#8, 1#8, 0#8, 0#8], .encfault ⟨133#8, true, false, false, true, false, false⟩),
      ([0x39#8, 3#8, 2#8], .decrp 0x0302#16), ([0x3A#8, 0x6E#8, 0x25#8], .dectime 0x6E25#16),
      ([0x3B#8, 3#8, 0x0E#8, 0x25#8], .enctime ⟨3#3, 14#5, 37#6⟩), ([0x3C#8, 0x0C#8, 0x19#8], .decdate 0x0C19#16),
      ([0x3D#8, 0x0C#8, 0x19#8], .encdate ⟨12#8, 25#8⟩)
    ] : List (List Byte × Instr)), (decodeRequest row.1).toOption = some row.2 := by decide +kernel

theorem test_decode_engine_and_writes : ∀ row ∈ ([
      ([0x40#8, 0x80#8, 0x19#8, 0#8, 0#8, 0#8, 0#8, 3#8, 0xE8#8], .xact 0x80190000#32 1000#32),
      ([0x41#8, 0#8, 0#8, 0#8, 0xFA#8], .settmo 250#32),
      ([0x50#8, 0x42#8, 0x83#8, 0#8, 0#8], .wrControlSetpoint 0x42830000#32),
      ([0x51#8, 0x41#8, 0xA8#8, 0#8, 0#8], .wrRoomSetpoint 0x41A80000#32),
      ([0x52#8, 0x42#8, 0x5C#8, 0#8, 0#8], .wrDhwSetpoint 0x425C0000#32),
      ([0x53#8, 0x42#8, 0xA0#8, 0#8, 0#8], .wrMaxChSetpoint 0x42A00000#32),
      ([0x54#8, 1#8, 0#8], .wrChDhwEnable true false),
      ([0x55#8, 3#8, 0x0E#8, 0x25#8], .wrDaytime ⟨3#3, 14#5, 37#6⟩),
      ([0x56#8, 0x0C#8, 0x19#8], .wrDate ⟨12#8, 25#8⟩), ([0x57#8, 7#8, 0xEA#8], .wrYear 0x07EA#16)
    ] : List (List Byte × Instr)), (decodeRequest row.1).toOption = some row.2 := by decide +kernel

theorem test_decode_reads_low : ∀ row ∈ ([
      ([0x80#8], .rdStatus), ([0x81#8], .rdControlSetpoint), ([0x82#8], .rdMasterConfig),
      ([0x83#8], .rdSlaveConfig), ([0x85#8], .rdFault), ([0x86#8], .rdRemoteParams), ([0x8E#8], .rdMaxRelMod),
      ([0x8F#8], .rdMaxCapacity), ([0x90#8], .rdRoomSetpoint), ([0x91#8], .rdRelMod), ([0x92#8], .rdChPressure),
      ([0x93#8], .rdDhwFlow), ([0x94#8], .rdDaytime), ([0x95#8], .rdDate), ([0x96#8], .rdYear),
      ([0x98#8], .rdRoomTemp), ([0x99#8], .rdBoilerTemp), ([0x9A#8], .rdDhwTemp), ([0x9B#8], .rdOutsideTemp)
    ] : List (List Byte × Instr)), (decodeRequest row.1).toOption = some row.2 := by decide +kernel

theorem test_decode_reads_high : ∀ row ∈ ([
      ([0x9C#8], .rdReturnTemp), ([0xA1#8], .rdExhaustTemp), ([0xB0#8], .rdDhwBounds), ([0xB1#8], .rdChBounds),
      ([0xB8#8], .rdDhwSetpoint), ([0xB9#8], .rdMaxChSetpoint), ([0xF3#8], .rdOemDiag), ([0xF4#8], .rdCounter116),
      ([0xF5#8], .rdCounter117), ([0xF6#8], .rdCounter118), ([0xF7#8], .rdCounter119), ([0xF8#8], .rdCounter120),
      ([0xF9#8], .rdCounter121), ([0xFA#8], .rdCounter122), ([0xFB#8], .rdCounter123), ([0xFC#8], .rdOtVersion),
      ([0xFD#8], .rdVersion125), ([0xFE#8], .rdVersion126), ([0xFF#8], .rdVersion127)
    ] : List (List Byte × Instr)), (decodeRequest row.1).toOption = some row.2 := by decide +kernel

theorem test_decode_frames :
    decodeWire 0x80190000#32 = .frameReadData true 0#4 25#8 0#16 ∧
    decodeWire 0x90014180#32 = .frameWriteData true 0#4 1#8 0x4180#16 ∧
    decodeWire 0xA0FFFFFF#32 = .frameInvalidData true 0#4 255#8 0xFFFF#16 ∧
    decodeWire 0x30000000#32 = .frameReserved false 0#4 0#8 0#16 ∧
    decodeWire 0xC000030A#32 = .frameReadAck true 0#4 0#8 0x030A#16 ∧
    decodeWire 0x50014180#32 = .frameWriteAck false 0#4 1#8 0x4180#16 ∧
    decodeWire 0x60210000#32 = .frameDataInvalid false 0#4 33#8 0#16 ∧
    decodeWire 0xFFFFFFFF#32 = .frameUnknownDataid true 15#4 255#8 0xFFFF#16 := by
  refine ⟨rfl, rfl, rfl, rfl, rfl, rfl, rfl, rfl⟩

/-- The opcode table's numbering: an 8-bit row is the selector alone, its operand bytes zeros. -/
theorem test_table_words : decodeTableWord 8 0x33 =
      some (.encstatus ⟨false, false, false, false, false, false, false, false, false, false, false, false⟩) ∧
    decodeTableWord 8 0x10 = some (.mdec 0#68) ∧ decodeTableWord 32 0xF0630000 =
      some (.frameUnknownDataid true 0#4 99#8 0#16) := by decide +kernel

/-- The first instruction after reset is the one placed. -/
theorem test_first_instruction_after_reset :
    step (State.reset.withFetchWord 8 0x80) = exec .rdStatus State.reset ∧
    step (State.reset.withFetchWord 32 0xC0193A80) = exec (.frameReadAck true 0#4 25#8 0x3A80#16) State.reset :=
  ⟨rfl, rfl⟩

/-! ### The spec's vectors (95_test_vectors.md), one step each -/

theorem test_vectors_framecodec : ∀ row ∈ ([
      (.pack 7#3 99#8 0#16, .ok (.frame 0xF0630000#32)),
      (.pack 7#3 255#8 0xFFFF#16, .ok (.frame 0xF0FFFFFF#32)),
      (.unpack 0x0F000000#32, .ok (.fields ⟨false, 0#3, 15#4, 0#8, 0#16⟩)),
      (.vpar 0xC0193A80#32, .ok (.bit true)),
      (.vpar 0x7FFFFFFF#32, .ok (.bit false)),
      (.bldrd 255#8, .ok (.frame 0x00FF0000#32)),
      (.bldrd 25#8, .ok (.frame 0x80190000#32)),
      (.bldwr 22#8 0x07EA#16, .ok (.frame 0x101607EA#32))
    ] : List (Instr × Answer)), answerOf row.1 idleState = some row.2 := by decide +kernel

theorem test_vectors_manchester : ∀ row ∈ ([
      (.menc 0xC0193A80#32, .ok (.capture 0b10101001010101010101010110100101100101101010011001100101010101010110#68)),
      (.mdec 0b10101001010101010101010110100101100101101010011001100101010101010110#68, .ok (.frame 0xC0193A80#32)),
      (.mdec 0b00101001011101010101010110100101100101101010011001100101010101010110#68, .err .invalidFraming),
      (.mdec 0b10101001010101010101010110100101100101101010011001100101010101011110#68, .err .invalidEncoding)
    ] : List (Instr × Answer)), answerOf row.1 idleState = some row.2 := by decide +kernel

theorem test_vectors_numeric : ∀ row ∈ ([
      (.f88tof 0xFB80#16, .ok (.typed (.f32 0xC0900000#32))),
      (.f88tof 0x8000#16, .ok (.typed (.f32 0xC3000000#32))),  -- f88tof_lowest
      (.f88fromf 0xBBC00000#32, .ok (.typed (.u16 0xFFFF#16))),  -- f88fromf_truncates
      (.f88fromf 0x41A0CCCD#32, .ok (.typed (.u16 0x1419#16))),  -- f88fromf_20_1
      (.getu16 0xFFFF0000#32, .ok (.typed (.u16 0#16))),
      (.gets16 0xC021FFF6#32, .ok (.typed (.s16 (-10)))),
      (.getf88 0xC0193A80#32, .ok (.typed (.f32 0x426A0000#32)))
    ] : List (Instr × Answer)), answerOf row.1 idleState = some row.2 := by decide +kernel

theorem test_vectors_byte_records : ∀ row ∈ ([
      (.decu8u8 0x3C28#16, .ok (.typed (.bytes 60#8 40#8))),
      (.encu8u8 60#8 40#8, .ok (.typed (.u16 0x3C28#16))),
      (.decrp 0x0302#16, .ok (.typed (.remoteParams ⟨3#8, 2#8⟩))),
      (.dectime 0x6E25#16, .ok (.typed (.time ⟨3#3, 14#5, 37#6⟩))),
      (.enctime ⟨7#3, 31#5, 63#6⟩, .ok (.typed (.u16 0xFF3F#16))),
      (.decdate 0x0C19#16, .ok (.typed (.date ⟨12#8, 25#8⟩))),
      (.encdate ⟨12#8, 31#8⟩, .ok (.typed (.u16 0x0C1F#16)))
    ] : List (Instr × Answer)), answerOf row.1 idleState = some row.2 := by decide +kernel

theorem test_vectors_flag_records : ∀ row ∈ ([
      (.decstatus 0x030A#16,
        .ok (.typed (.status ⟨true, true, false, false, false, false, true, false, true, false, false, false⟩))),
      (.decstatus 0xE080#16,
        .ok (.typed (.status
          ⟨false, false, false, false, false, false, false, false, false, false, false, false⟩))),
      (.encstatus ⟨true, true, true, true, true, true, true, true, true, true, true, true⟩,
        .ok (.typed (.u16 0x1F7F#16))),
      (.decmcfg 0x2100#16, .ok (.typed (.config ⟨true, false, false, false, false, true⟩))),
      (.decscfg 0x0B00#16, .ok (.typed (.config ⟨true, true, false, true, false, false⟩))),
      (.enccfg ⟨true, false, false, false, false, true⟩, .ok (.typed (.u16 0x2100#16))),
      (.decfault 0x8509#16, .ok (.typed (.fault ⟨133#8, true, false, false, true, false, false⟩))),
      (.encfault ⟨133#8, true, false, false, true, false, false⟩, .ok (.typed (.u16 0x8509#16)))
    ] : List (Instr × Answer)), answerOf row.1 idleState = some row.2 := by decide +kernel

theorem test_vectors_in_flight : ∀ row ∈ ([
      (.pack 1#3 1#8 0x4180#16, .ok (.frame 0x90014180#32)),
      (.settmo 5#32, .err .busy),
      (.rdStatus, .err .busy)
    ] : List (Instr × Answer)), answerOf row.1 busyState = some row.2 := by decide +kernel

theorem test_vectors_settmo : ∀ row ∈ ([
      (.settmo 250#32, .ok .none)
    ] : List (Instr × Answer)), answerOf row.1 idleState = some row.2 := by decide +kernel


theorem test_requests_sent : ∀ row ∈ ([
      (.xact 0x12345678#32 1000#32, 0x12345678#32),
      (.wrControlSetpoint 0x41A0CCCD#32, 0x90011419#32),
      (.wrRoomSetpoint 0xBB000000#32, 0x10100000#32),
      (.wrDhwSetpoint 0x425C0000#32, 0x90383700#32),
      (.wrMaxChSetpoint 0x42FFFF00#32, 0x10397FFF#32),
      (.wrChDhwEnable true false, 0x10000100#32),
      (.wrDaytime ⟨7#3, 23#5, 59#6⟩, 0x9014F73B#32),
      (.wrDate ⟨12#8, 25#8⟩, 0x90150C19#32),
      (.wrYear 2026#16, 0x101607EA#32)
    ] : List (Instr × Frame)), sentBy row.1 idleState = some row.2 := by decide +kernel

/-- The 38 typed reads send the words of R261 to R298. -/
theorem test_reads_send : ∀ row ∈ readRows, sentBy row.cmd idleState = some row.request := by decide +kernel

/-- P1 step 1c: the response 0xC0193A80 gives 58.5 in `OUT`. -/
theorem test_boiler_temp_response : outAfter 0xC0193A80#32 busyState = .f32 0x426A0000#32 := by decide +kernel

/-- A READ-ACK of another id is decoded all the same: 0x030A as f8.8 is 3.0390625. -/
theorem test_cross_id_response : outAfter 0xC000030A#32 busyState = .f32 0x40428000#32 := by decide +kernel

/-- X8: a frame of odd parity is discarded. -/
theorem test_odd_parity_discarded :
    (iterate (some (manchesterEncode 0x40193A80#32)) busyState).fsm = .awaitingResponse ∧
    (iterate (some (manchesterEncode 0x40193A80#32)) busyState).out = busyState.out := by decide +kernel

/-- Each frame row in flight completes the read (X9, X10: type and id are not examined). -/
theorem test_frames_complete :
    ∀ i ∈ [Instr.frameReadData true 0#4 25#8 0#16, .frameWriteData true 0#4 1#8 0x4180#16,
      .frameInvalidData true 0#4 255#8 0xFFFF#16, .frameReserved false 0#4 0#8 0#16,
      .frameReadAck true 0#4 25#8 0x3A80#16, .frameWriteAck false 0#4 1#8 0x4180#16,
      .frameDataInvalid false 0#4 33#8 0#16, .frameUnknownDataid true 0#4 99#8 0#16],
    answerOf i busyState = some (.ok .none) := by decide +kernel

/-- The host reads `OUT` after a successful `RD_*` command and finds its value; too early, it gets none that is marked as
the value of `OUT` (R33), and the block goes on. -/
theorem test_host_reads_out :
    nextWith (step { idleState with inputs := [.readOut], out := .u16 2026#16, outWritten := true })
      (fun t => decide (t.reads = [.value (.u16 2026#16)])) = true ∧
    nextWith (step { idleState with inputs := [.readOut] })
      (fun t => decide (t.reads ≠ [.value idleState.out] ∧ t.out = idleState.out ∧ t.inputs = [])) = true := by
  decide +kernel

/-- The strict comparison of R240: elapsed = `XTMO` does not time out, one more does. -/
theorem test_window_is_strict :
    (iterate none { busyState with clock := 1010, delays := [0] }).fsm = .awaitingResponse ∧
    (iterate none { busyState with clock := 1010, delays := [1] }).fsm = .idle := by decide

/-- The time base wraps (R352): elapsed is 20 across the wrap. -/
theorem test_window_across_wrap : (iterate none { busyState with
    xt0 := 0xFFFFFFF6#32, xtmo := 20#32, clock := 0x10000000A, delays := [0] }).fsm = .awaitingResponse := by decide

/-- The capture whose samples are the binary digits of a number. -/
def captureOf (n : Nat) : Capture := BitVec.ofNat 68 n

/-! ### Witnesses: states and operands that meet the hypotheses of each statement -/

/-- Bytes that decode, so that `EncodeOfDecodeIsThePacket` speaks of something. -/
theorem witness_EncodeOfDecodeIsThePacket : decode (.request [0x04#8, 25#8]) = .ok (.bldrd 25#8) := rfl

theorem witness_UnassignedSelectorChangesNothing :
    (∃ row ∈ registry, (0xFF#8).toNat = 0x80 + row.1.toNat) ∧ (0x01#8).toNat ∈ [0x01, 0x02] ∧
    (∀ op ∈ [0x00#8, 0x06#8, 0x58#8, 0x7F#8, 0x84#8],
      ¬(op.toNat ∈ [0x01, 0x02, 0x03, 0x04, 0x05, 0x10, 0x11, 0x20, 0x21, 0x22, 0x23, 0x24, 0x30, 0x31, 0x32, 0x33,
          0x34, 0x35, 0x36, 0x37, 0x38, 0x39, 0x3A, 0x3B, 0x3C, 0x3D, 0x40, 0x41, 0x50, 0x51, 0x52, 0x53, 0x54, 0x55,
          0x56, 0x57]
        ∨ ∃ row ∈ registry, op.toNat = 0x80 + row.1.toNat)) := by decide

theorem witness_StepRunsTheDecodedInstruction :
    decode (.request [0x04#8, 25#8]) = .ok (.bldrd 25#8) ∧
    { busyState with inputs := [.request false [0x04#8, 25#8]] }.inputs =
      inputOfPacket (.request [0x04#8, 25#8]) :: [] ∧
    idleState.fsm = .idle ∧ { idleState with inputs := [.request true [0x04#8, 25#8]] }.inputs =
      .request true [0x04#8, 25#8] :: [] ∧
    decodeTableWord 32 0xFFFFFFFF = some (.frameUnknownDataid true 15#4 255#8 0xFFFF#16) := by decide +kernel

/-- One state for each clause: a poll, a waiting host, and no move to come in each state of `FSM`. -/
theorem witness_StepWithoutInstruction :
    { idleState with inputs := [.poll none, .reset] }.inputs = .poll none :: [.reset] ∧
    busyState.fsm = .awaitingResponse ∧ { busyState with inputs := [.request true [0x80#8]] }.inputs =
      .request true [0x80#8] :: [] ∧
    busyState.inputs = [] ∧ idleState.inputs = [] ∧ idleState.fsm = .idle := ⟨rfl, rfl, rfl, rfl, rfl, rfl⟩

theorem witness_HostReadOfOut :
    { idleState with inputs := [.readOut], outWritten := true }.inputs = .readOut :: [] ∧
    { idleState with inputs := [.readOut], outWritten := true }.outWritten = true ∧
    { idleState with inputs := [.readOut] }.inputs = .readOut :: [] ∧
    { idleState with inputs := [.readOut] }.outWritten = false := ⟨rfl, rfl, rfl, rfl⟩

theorem witness_SafeInputNeverStops :
    State.inputSafe { idleState with inputs := [.request false [0x06#8, 1#8]] } = true ∧
    State.inputSafe { busyState with inputs := [.request true [0x57#8, 7#8, 0xEA#8]] } = true ∧
    State.inputSafe { idleState with inputs := [.readOut] } = true ∧
    State.inputSafe idleState = true := by decide +kernel

/-- A capture for each clause: a stop pair (0,1); a last data pair (1,1); and the capture of 0xC0193A80. -/
theorem witness_MdecDecodesOrNamesTheError :
    (∀ n ∈ [0b10101001010101010101010110100101100101101010011001100101010101010101, 0],
      ¬((captureOf n).getLsbD 67 = true ∧ (captureOf n).getLsbD 66 = false ∧ (captureOf n).getLsbD 1 = true ∧
        (captureOf n).getLsbD 0 = false)) ∧
    (∀ n ∈ [0b10101001010101010101010110100101100101101010011001100101010101011110],
      ((captureOf n).getLsbD 67 = true ∧ (captureOf n).getLsbD 66 = false ∧ (captureOf n).getLsbD 1 = true ∧
        (captureOf n).getLsbD 0 = false) ∧
      (captureOf n).getLsbD (67 - 2 * 32) = (captureOf n).getLsbD (66 - 2 * 32)) ∧
    (∀ n ∈ [0b10101001010101010101010110100101100101101010011001100101010101010110],
      ((captureOf n).getLsbD 67 = true ∧ (captureOf n).getLsbD 66 = false ∧ (captureOf n).getLsbD 1 = true ∧
        (captureOf n).getLsbD 0 = false) ∧
      ∀ k ∈ List.range' 1 32, (captureOf n).getLsbD (67 - 2 * k) ≠ (captureOf n).getLsbD (66 - 2 * k)) := by decide +kernel

theorem witness_ManchesterRoundTrip :
    manchesterDecode 0b10101001010101010101010110100101100101101010011001100101010101010110#68 =
      .ok 0xC0193A80#32 := by decide +kernel

/-- The first and the last sample, data pair and pair of data pairs. -/
theorem witness_SampleErrorsAreDetectedByPair :
    0 < 68 ∧ 67 < 68 ∧ (1 ≤ 1 ∧ 1 ≤ 32) ∧ (1 ≤ 32 ∧ 32 ≤ 32) ∧ (1 ≤ 1 ∧ 1 < 32 ∧ 32 ≤ 32) := by decide

theorem witness_PackUnpackParityLaws : 0 < 32 ∧ 31 < 32 := by decide

/-- Binary32 operands inside the specified range and at both of its ends: 65.5, the number just above -128.00390625 and
the number just below 128. -/
theorem witness_F88fromfTruncatesTowardZero : ∀ row ∈ ([(0x42830000#32, 131 / 2),
      (0xC30000FF#32, -8388863 / 65536), (0x42FFFFFF#32, 16777215 / 131072)] : List (F32 × ℚ)),
    f32Value row.1 = some row.2 ∧ -32769 < row.2 * 256 ∧ row.2 * 256 < 32768 := by decide +kernel

/-- NaN and an infinity have no value; 128 and -128.00390625 are the first numbers outside the range. -/
theorem witness_F88fromfUnspecifiedStillCompletes :
    f32Value 0x7FC00000#32 = none ∧ f32Value 0xFF800000#32 = none ∧
    (f32Value 0x43000000#32 = some 128 ∧ (32768 : ℚ) ≤ 128 * 256) ∧
    (f32Value 0xC3000100#32 = some (-32769 / 256) ∧ (-32769 / 256 : ℚ) * 256 ≤ -32769) := by decide +kernel

/-- A number that is no multiple of 1/256, and the least multiple. -/
theorem witness_F88RoundTrip : ∀ row ∈ ([(0x41A0CCCD#32, 10538189 / 524288), (0xC3000000#32, -128)] : List (F32 × ℚ)),
    f32Value row.1 = some row.2 ∧ -32769 < row.2 * 256 ∧ row.2 * 256 < 32768 := by decide +kernel

theorem witness_PureCommandsDependOnOperandsOnly :
    pureCommand (.mdec 0#68) = true ∧ pureCommand (.encdate ⟨0#8, 0#8⟩) = true ∧
    pureCommand (.f88fromf 0x42830000#32) = true ∧ f88FromFloat 0x42830000#32 ≠ none := by decide +kernel

theorem witness_EngineCommandsAreRefusedWhileBusy :
    engineCommand (.xact 0#32 0#32) = true ∧ engineCommand (.settmo 5#32) = true ∧
    engineCommand .rdVersion127 = true ∧ busyState.fsm = .awaitingResponse := by decide

/-- `XACT` and `SETTMO` need `Idle` only. -/
theorem witness_XactStartsTheTransaction : idleState.fsm = .idle := rfl
theorem witness_SettmoWritesTimeout : idleState.fsm = .idle := rfl

theorem witness_TypedReadsTransmitTheirRequest :
    ⟨.rdStatus, 0x80#8, 0x00000000#32, .status⟩ ∈ readRows ∧
    ⟨.rdVersion127, 0xFF#8, 0x807F0000#32, .u8u8⟩ ∈ readRows ∧ idleState.fsm = .idle := by decide +kernel

theorem witness_TypedWritesTransmitTheirRequest : idleState.fsm = .idle := rfl

theorem witness_SetpointWritesTransmitTheTruncatedValue : idleState.fsm = .idle ∧
    f32Value 0xC30000FF#32 = some (-8388863 / 65536) ∧ (-32769 : ℚ) < -8388863 / 65536 * 256 ∧
    (-8388863 / 65536 : ℚ) * 256 < 32768 := by decide +kernel

theorem witness_SetpointWritesOutOfRangeStillTransmit : idleState.fsm = .idle ∧ f32Value 0x7F800000#32 = none ∧
    f32Value 0x43000000#32 = some 128 ∧ (32768 : ℚ) ≤ 128 * 256 := by decide +kernel

theorem witness_ValidCaptureEndsTheTransaction :
    busyState.fsm = .awaitingResponse ∧
    { busyState with inputs := [.poll (some (manchesterEncode 0xC0193A80#32))] }.inputs =
      .poll (some (manchesterEncode 0xC0193A80#32)) :: [] ∧
    (manchesterDecode (manchesterEncode 0xC0193A80#32)).toOption = some 0xC0193A80#32 ∧
    setBits 0xC0193A80#32 % 2 = 0 := by decide +kernel

/-- What makes a poll fail: nothing, bad framing, and a frame of odd parity; and the elapsed time on both sides of the
window's end. -/
theorem witness_FailedPollChecksTheWindow :
    busyState.fsm = .awaitingResponse ∧ { busyState with inputs := [.poll none] }.inputs = .poll none :: [] ∧
    failing none ∧ (manchesterDecode 0#68).toOption = none ∧
    (manchesterDecode (manchesterEncode 0x40193A80#32)).toOption = some 0x40193A80#32 ∧
    setBits 0x40193A80#32 % 2 = 1 ∧
    busyState.elapsed 1010 = 1000 ∧ busyState.elapsed 1011 = 1001 ∧ busyState.xtmo.toNat = 1000 :=
  ⟨rfl, rfl, by simp [failing], by decide +kernel⟩

/-- A frame of each type with an even number of set bits, in flight. -/
theorem witness_EvenFramesOfEveryTypeAreAccepted : busyState.fsm = .awaitingResponse ∧
    ∀ m ∈ [0#3, 1#3, 2#3, 3#3, 4#3, 5#3, 6#3, 7#3],
      (setBits (BitVec.ofBool false ++ m ++ 0#4 ++ 0#8 ++ 0#16) % 2 = 0 ∨
       setBits (BitVec.ofBool true ++ m ++ 0#4 ++ 0#8 ++ 0#16) % 2 = 0) := by decide +kernel

theorem witness_OddFramesAreSilenceAndIdleIgnoresFrames :
    busyState.fsm = .awaitingResponse ∧ idleState.fsm = .idle ∧
    ∀ m ∈ [0#3, 1#3, 2#3, 3#3, 4#3, 5#3, 6#3, 7#3],
      (setBits (BitVec.ofBool false ++ m ++ 0#4 ++ 0#8 ++ 0#16) % 2 = 1 ∨
       setBits (BitVec.ofBool true ++ m ++ 0#4 ++ 0#8 ++ 0#16) % 2 = 1) := by decide +kernel

theorem witness_TypedReadDeliversTheDecodedFrame :
    ⟨.rdBoilerTemp, 0x99#8, 0x80190000#32, .f88⟩ ∈ readRows ∧ idleState.fsm = .idle ∧
    setBits 0xC0193A80#32 % 2 = 0 ∧ nextWith (exec .rdBoilerTemp idleState) (fun _ => true) = true := by
  decide +kernel

theorem witness_MalformedThenValidSucceeds :
    busyState.fsm = .awaitingResponse ∧ failing (some 0#68) ∧
    manchesterDecode (manchesterEncode 0x50014180#32) = .ok 0x50014180#32 ∧ setBits 0x50014180#32 % 2 = 0 ∧
    busyState.delays = 0 :: [0] ∧ busyState.elapsed (busyState.clock + 0) ≤ busyState.xtmo.toNat := by
  refine ⟨rfl, fun c f hc h => ?_, by decide +kernel⟩
  cases hc
  have e : manchesterDecode 0#68 = .error .invalidFraming := by decide +kernel
  rw [e] at h; cases h

theorem witness_LargestTimeoutNeverTimesOut :
    { busyState with xtmo := 0xFFFFFFFF#32 }.fsm = .awaitingResponse ∧
    { busyState with xtmo := 0xFFFFFFFF#32 }.xtmo = 0xFFFFFFFF#32 ∧ ∀ a ∈ [none, none], failing a :=
  ⟨rfl, rfl, by simp [failing]⟩

/-- The commands of either end of each kind: `XACT`, the first and last reads, a write, and a setpoint out of range. -/
def starters : List Instr :=
  [.xact 0x80190000#32 20#32, .rdStatus, .rdVersion127, .wrYear 2026#16, .wrControlSetpoint 0x7F800000#32]

theorem witness_OneSendOneOutcome : idleState.fsm = .idle ∧ ∀ i ∈ starters,
    startsTransaction i = true ∧ nextWith (exec i idleState) (fun _ => true) = true := by decide +kernel

/-- X4: timeouts of 0, so at most two polls, for `XACT` by its operand and for a read by `TIMEOUT`. -/
theorem witness_TransactionEndsWithinThePollBound : idleState.fsm = .idle ∧ 1 ≤ idleState.pollMs ∧
    ∀ i ∈ [Instr.xact 0x80190000#32 0#32, .rdStatus],
      startsTransaction i = true ∧
      ([none, none] : List (Option Capture)).length =
        (timeoutOf i { idleState with timeout := 0#32 }).toNat / idleState.pollMs + 2 ∧
      nextWith (exec i { idleState with timeout := 0#32 })
        (fun t => decide ((polls [none, none] t).clock < t.clock + 0x100000000)) = true := by decide +kernel

/-- X3: a timeout of 20 and four polls, all times exact. -/
theorem witness_ExactSleepTimesOutAtTheFirstMultiple : idleState.fsm = .idle ∧ 1 ≤ idleState.pollMs ∧
    { idleState with delays := [0, 0, 0, 0, 0] }.delays = List.replicate (4 + 1) 0 ∧
    (∀ i ∈ starters, startsTransaction i = true ∧
      nextWith (exec i { idleState with delays := [0, 0, 0, 0, 0] }) (fun _ => true) = true) ∧
    ([none, none, none, none] : List (Option Capture)).length = 4 ∧ 4 * idleState.pollMs < 0x100000000 := by
  decide +kernel

theorem witness_failing_polls : ∀ a ∈ [none, none, none, none], failing a := by simp [failing]

theorem witness_ResetEventAbandonsTheTransaction :
    { busyState with inputs := [.reset] }.inputs = .reset :: [] := rfl

/-- A step that starts a transaction and one that ends it. -/
theorem witness_FsmTransitionsAndTransmissions :
    idleState.fsm = .idle ∧ nextWith (step { idleState with inputs := [.request false [0x80#8]] })
      (fun t => decide (t.fsm = .awaitingResponse)) = true ∧
    busyState.fsm = .awaitingResponse ∧
    nextWith (step { busyState with inputs := [.poll (some (manchesterEncode 0xC0193A80#32))] })
      (fun t => decide (t.fsm = .idle)) = true := by decide +kernel

theorem witness_TimeoutIsWrittenOnlyBySettmo :
    nextWith (step { idleState with inputs := [.request false [0x41#8, 0#8, 0#8, 0#8, 250#8]] })
      (fun t => decide (t.timeout ≠ idleState.timeout)) = true ∧
    nextWith (step { idleState with inputs := [.reset], timeout := 5#32 })
      (fun t => decide (t.timeout ≠ 5#32)) = true := by decide +kernel

theorem witness_OutIsWrittenOnlyBySuccessfulReads :
    nextWith (step { busyState with inputs := [.wire 0xC0193A80#32] })
      (fun t => decide (t.out ≠ busyState.out)) = true := by decide +kernel

theorem witness_TransactionRegistersHoldInFlight : busyState.fsm = .awaitingResponse ∧
    nextWith (step { busyState with inputs := [.request false [0x41#8, 0#8, 0#8, 0#8, 5#8]] })
      (fun t => decide (t.fsm = .awaitingResponse)) = true := by decide +kernel

/-- The invariant's premise, in flight, and a step there. -/
theorem witness_StepKeepsTransactionHeld :
    busyState.fsm = .awaitingResponse ∧ busyState.sent.head? = some busyState.xreq ∧
    startedBy busyState.xcmd busyState.xreq = true ∧
    nextWith (step { busyState with inputs := [.poll none] }) (fun _ => true) = true := by decide +kernel

theorem witness_StepKeepsParametersAndTime : 1 ≤ busyState.pollMs ∧
    nextWith (step { busyState with inputs := [.poll none] }) (fun _ => true) = true := by decide +kernel

/-- A step that ends a read with `TimedOut`, from a state that meets the invariant. -/
theorem witness_RepliesKeepTheVisibilityMatrix :
    busyState.sent.head? = some busyState.xreq ∧ startedBy busyState.xcmd busyState.xreq = true ∧
    nextWith (step { busyState with inputs := [.poll none], clock := 1011 })
      (fun t => decide (t.replies ≠ busyState.replies)) = true := by decide +kernel

end Sys2Proof.Tests
end

section
/-! SUPPORT. Everything an instruction can do, said once: what `exec` leaves, by the shared operation the meaning of the
instruction calls. -/

namespace Sys2Proof.Machine

/-- A decode error of `MDEC` is one of its two (R141, R142); an odd number of set bits is none (R141). -/
theorem manchesterDecode_error {c : Capture} {e : Err} (h : manchesterDecode c = .error e) :
    e = .invalidFraming ∨ e = .invalidEncoding := by
  by_cases framed : capturePair c 0 = (true, false) ∧ capturePair c 33 = (true, false)
  · rw [manchesterDecode_framed framed.1 framed.2] at h
    exact .inr (decodePairs_error h)
  · rw [manchesterDecode_framing (not_and_or.mp framed)] at h
    cases h
    exact .inl rfl

/-- What an instruction leaves of the state it runs on: the reply of a pure command, the refusal of an engine command in
flight, the write of `TIMEOUT`, the start of a transaction, or a poll of the engine that delivers a frame. -/
inductive Completes (i : Instr) (s : State) : State → Prop
  | ok {v : Value} {u : State} (isPure : pureCommand i = true) (drawn : u = s ∨ u = s.draw) :
      Completes i s (u.pushReply i (.ok v))
  | decodeError {c : Capture} {e : Err} (cmd : i = .mdec c) (kind : e = .invalidFraming ∨ e = .invalidEncoding) :
      Completes i s (s.pushReply i (.err e))
  | busy (engine : engineCommand i = true) (inFlight : s.fsm = .awaitingResponse) :
      Completes i s (s.pushReply i (.err .busy))
  | settmo {ms : Millis} (cmd : i = .settmo ms) (idle : s.fsm = .idle) :
      Completes i s ((s.setTimeout ms).pushReply i (.ok .none))
  | start {x : XCmd} {r : Frame} {u : State} (starts : startsTransaction i = true) (idle : s.fsm = .idle)
      (cmd : x.cmd = i) (drawn : u = s ∨ u = s.draw) : Completes i s (startTransaction x r (timeoutOf i s) u)
  | poll {f : Frame} (noCommand : selectorOf i = none) : Completes i s (iterate (some (manchesterEncode f)) s)

/-- The instruction goes on, and what it leaves is one of the cases of `Completes`. -/
def GoesOnTo (i : Instr) (s : State) : Prop := ∃ t, exec i s = .next t ∧ Completes i s t

section
variable {i : Instr} {s : State}

theorem goesOnTo_of_replyOk {v : Value} (isPure : pureCommand i = true) (h : exec i s = .next (replyOk i v s)) :
    GoesOnTo i s := ⟨_, h, .ok isPure (.inl rfl)⟩

theorem goesOnTo_of_receiveFrame {f : Frame} (noCommand : selectorOf i = none)
    (h : exec i s = .next (receiveFrame f s)) : GoesOnTo i s := ⟨_, h, .poll noCommand⟩

theorem goesOnTo_of_starts {go : State → State} (starts : startsTransaction i = true) (engine : engineCommand i = true)
    (h : exec i s = .next (whenIdle i s go)) : GoesOnTo i s := by
  cases hf : s.fsm with
  | idle =>
    obtain ⟨x, r, u, hu, hx, -, he⟩ := exec_startsTransaction starts hf
    exact ⟨_, he, .start starts hf hx hu⟩
  | awaitingResponse => exact ⟨_, h.trans (congrArg _ (whenIdle_awaiting hf)), .busy engine hf⟩

end

theorem goesOnTo_settmo (ms : Millis) (s : State) : GoesOnTo (.settmo ms) s := by
  rcases whenIdle_cases (.settmo ms) s (fun s => replyOk (.settmo ms) .none (s.setTimeout ms)) with ⟨hf, h⟩ | ⟨hf, h⟩
  · exact ⟨_, (exec_settmo s ms).trans (congrArg _ h), .busy rfl hf⟩
  · exact ⟨_, (exec_settmo s ms).trans (congrArg _ h), .settmo rfl hf⟩

theorem goesOnTo_mdec (c : Capture) (s : State) : GoesOnTo (.mdec c) s := by
  cases h : manchesterDecode c with
  | ok f => exact goesOnTo_of_replyOk rfl (exec_mdec_ok s h)
  | error e =>
    have hk := manchesterDecode_error h
    have hr : raiseError e (.mdec c) s = s.pushReply (.mdec c) (.err e) := by
      rcases hk with rfl | rfl <;> rfl
    exact ⟨_, (exec_mdec_error s h).trans (congrArg _ hr), .decodeError rfl hk⟩

theorem goesOnTo_f88fromf (x : F32) (s : State) : GoesOnTo (.f88fromf x) s := by
  cases h : f88FromFloat x with
  | some v => exact goesOnTo_of_replyOk rfl (exec_f88fromf_some s h)
  | none => exact ⟨_, exec_f88fromf_none s h, .ok rfl (.inr rfl)⟩

/-- Every instruction goes on in every state (R347), in one of the ways of `Completes`. -/
theorem exec_goesOnTo (i : Instr) (s : State) : GoesOnTo i s := by
  cases i
  case mdec c => exact goesOnTo_mdec c s
  case f88fromf x => exact goesOnTo_f88fromf x s
  case settmo ms => exact goesOnTo_settmo ms s
  case pack | unpack | vpar | bldrd | bldwr | menc | f88tof | getu16 | gets16 | getf88 | decu8u8 | encu8u8 | decstatus
      | encstatus | decmcfg | decscfg | enccfg | decfault | encfault | decrp | dectime | enctime | decdate | encdate =>
    exact goesOnTo_of_replyOk rfl rfl
  case frameReadData | frameWriteData | frameInvalidData | frameReserved | frameReadAck | frameWriteAck
      | frameDataInvalid | frameUnknownDataid =>
    exact goesOnTo_of_receiveFrame rfl rfl
  -- `XACT`, the typed writes and the typed reads
  all_goals exact goesOnTo_of_starts rfl rfl rfl

theorem exec_cases {i : Instr} {s t : State} (h : exec i s = .next t) : Completes i s t := by
  obtain ⟨u, hu, hc⟩ := exec_goesOnTo i s
  cases hu.symm.trans h
  exact hc

end Sys2Proof.Machine
end

section
/-! CERTIFICATE. The construction parameter and the time base (R8, R26, R352): what each move does to the two, and O57. -/

namespace Sys2Proof.Machine

/-- From `s` to `t` the poll interval is kept and the time base has not gone back. -/
def TimeGoesOn (s t : State) : Prop := t.pollMs = s.pollMs ∧ s.clock ≤ t.clock

theorem TimeGoesOn.of_eq {s t : State} (hp : t.pollMs = s.pollMs) (hc : t.clock = s.clock) : TimeGoesOn s t :=
  ⟨hp, hc.ge⟩

theorem TimeGoesOn.trans {s t u : State} (hst : TimeGoesOn s t) (htu : TimeGoesOn t u) : TimeGoesOn s u := by
  obtain ⟨poll, clock⟩ := hst
  obtain ⟨poll', clock'⟩ := htu
  exact ⟨poll'.trans poll, clock.trans clock'⟩

theorem timeGoesOn_startTransaction (x : XCmd) (r : Frame) (m : Millis) (s : State) :
    TimeGoesOn s (startTransaction x r m s) :=
  ⟨startTransaction_pollMs x r m s, clock_le_startTransaction x r m s⟩

theorem timeGoesOn_passTime (s : State) : TimeGoesOn s s.passTime := ⟨passTime_pollMs s, clock_le_passTime s⟩

/-- The engine's step passes time when it checks the window, and sleeps when the window is open (R235). -/
theorem timeGoesOn_iterate (a : Option Capture) (s : State) : TimeGoesOn s (iterate a s) := by
  rcases iterate_cases a s with ⟨-, h⟩ | ⟨-, _, f, -, -, h⟩ | ⟨-, -, h⟩ | ⟨-, -, h⟩ <;> rw [h]
  · exact .of_eq rfl rfl
  · exact .of_eq (completeOk_pollMs f s) (completeOk_clock f s)
  · exact (timeGoesOn_passTime s).trans (.of_eq rfl rfl)
  · exact (timeGoesOn_passTime s).trans ⟨rfl, Nat.le_add_right ..⟩

theorem timeGoesOn_iterateFree (s : State) : TimeGoesOn s (iterateFree s) :=
  .trans (.of_eq rfl rfl) (timeGoesOn_iterate _ s.draw)

theorem timeGoesOn_hostReadOut (s : State) : TimeGoesOn s (hostReadOut s) := by
  rcases hostReadOut_cases s with ⟨-, h⟩ | ⟨-, h⟩ <;> rw [h] <;> exact .of_eq rfl rfl

theorem timeGoesOn_of_drawn {s u : State} (h : u = s ∨ u = s.draw) : TimeGoesOn s u := by
  rcases h with rfl | rfl <;> exact .of_eq rfl rfl

theorem Completes.timeGoesOn {i : Instr} {s t : State} (h : Completes i s t) : TimeGoesOn s t := by
  cases h with
  | ok _ drawn => exact (timeGoesOn_of_drawn drawn).trans (.of_eq rfl rfl)
  | decodeError | busy | settmo => exact .of_eq rfl rfl
  | start _ _ _ drawn => exact (timeGoesOn_of_drawn drawn).trans (timeGoesOn_startTransaction ..)
  | poll => exact timeGoesOn_iterate ..

theorem step_timeGoesOn {s t : State} (h : step s = .next t) : TimeGoesOn s t := by
  have pop : TimeGoesOn s s.popInput := .of_eq rfl rfl
  rcases step_cases h with ⟨_, _, _, _, -, -, he⟩ | ⟨_, _, -, he⟩ | ⟨-, rfl⟩ | ⟨-, -, rfl⟩ | ⟨-, -, rfl⟩ |
    ⟨_, _, -, rfl⟩ | ⟨_, -, rfl⟩ | ⟨_, -, rfl⟩
  · exact pop.trans (exec_cases he).timeGoesOn
  · exact pop.trans (exec_cases he).timeGoesOn
  · exact pop
  · exact .of_eq rfl rfl
  · exact timeGoesOn_iterateFree s
  · exact pop.trans (timeGoesOn_iterate ..)
  · exact pop.trans (.of_eq rfl rfl)
  · exact pop.trans (timeGoesOn_hostReadOut _)

/-- Settles O57: every step lets time go on, and the legality of the parameter speaks of the poll interval only. -/
theorem stepKeepsParametersAndTime : Obligations.StepKeepsParametersAndTime := by
  intro s t h
  obtain ⟨poll, clock⟩ := step_timeGoesOn h
  exact ⟨poll, fun legal => legal.trans_eq poll.symm, clock⟩

end Sys2Proof.Machine
end

section
/-! CERTIFICATE. Which byte strings the decoder of requests accepts (R21, R100, R101), read off field by field, and O3. -/

namespace Sys2Proof.Machine

/-- Where at least `n` bytes are left, reading `n` of them succeeds and leaves the others. -/
theorem readBytes_of_le {n : Nat} {bs : List Byte} (h : n ≤ bs.length) (acc : Nat) :
    ∃ m, readBytes n acc bs = some (m, bs.drop n) := by
  induction n generalizing acc bs with
  | zero => exact ⟨acc, rfl⟩
  | succ n ih =>
    cases bs with
    | nil => exact absurd h (Nat.not_succ_le_zero n)
    | cons b bs => exact ih (Nat.le_of_succ_le_succ h) _

/-- A field of `w` bits holds its number when the first byte does not reach past bit `w` (log 2). -/
theorem lt_two_pow_of_headD {w v : Nat} {rest : List Byte} (hv : v < 256 ^ fieldBytes w)
    (h : w % 8 = 0 ∨ ((putBytes (fieldBytes w) v ++ rest).headD 0#8).toNat < 2 ^ (w % 8)) : v < 2 ^ w := by
  have pow : ∀ k, 256 ^ k = 2 ^ (8 * k) := fun k => by rw [pow_mul]; norm_num
  by_cases whole : w % 8 = 0
  · rwa [pow, show 8 * fieldBytes w = w by unfold fieldBytes; omega] at hv
  · obtain ⟨n, hn⟩ : ∃ n, fieldBytes w = n + 1 := ⟨w / 8, by unfold fieldBytes; omega⟩
    have hw : w % 8 + 8 * n = w := by unfold fieldBytes at hn; omega
    have top : v / 256 ^ n < 256 := by
      rwa [Nat.div_lt_iff_lt_mul (by positivity), ← pow_succ', ← hn]
    have first : v / 256 ^ n < 2 ^ (w % 8) := by
      simpa [hn, putBytes, whole, Nat.mod_eq_of_lt top] using h
    rwa [Nat.div_lt_iff_lt_mul (by positivity), pow, ← pow_add, hw] at first

/-- Bytes that fit a first field of `w` bits are the bytes of a value of that width, and the rest fits the rest. -/
theorem exists_putField_of_fieldsFit {w : Nat} {ws : List Nat} {bs : List Byte} (h : fieldsFit (w :: ws) bs = true) :
    ∃ (v : BitVec w) (rest : List Byte), bs = putField v ++ rest ∧ fieldsFit ws rest = true := by
  simp only [fieldsFit, Bool.and_eq_true, Bool.or_eq_true, decide_eq_true_eq, beq_iff_eq] at h
  obtain ⟨⟨long, narrow⟩, fit⟩ := h
  obtain ⟨m, hm⟩ := readBytes_of_le long 0
  obtain ⟨v, hv, hbs, -⟩ := readBytes_some hm
  have hw : v < 2 ^ w := lt_two_pow_of_headD hv (hbs ▸ narrow)
  exact ⟨BitVec.ofNat w v, _, by rwa [putField, BitVec.toNat_ofNat, Nat.mod_eq_of_lt hw], fit⟩

/-- What reading the operands of a request with the selector `op` does: it accepts exactly the bytes that fit the fields
`ws`, and what it reads is a command with that selector. -/
structure ReadsFields (op : Byte) (ws : List Nat) (read : List Byte → Except DecodeError Instr) : Prop where
  accepts : ∀ bs, (∃ i, read bs = .ok i) ↔ fieldsFit ws bs = true
  selector : ∀ bs i, read bs = .ok i → selectorOf i = some op

theorem readsFields_endOf {op : Byte} {i : Instr} (hi : selectorOf i = some op) : ReadsFields op [] (endOf i) where
  accepts bs := by cases bs <;> simp [endOf, fieldsFit]
  selector bs j hj := by
    obtain ⟨-, rfl⟩ := endOf_ok hj
    exact hi

theorem readsFields_withField {op : Byte} {w : Nat} {ws : List Nat} {k : BitVec w → List Byte → Except DecodeError Instr}
    (hw : 0 < w) (hk : ∀ v, ReadsFields op ws (k v)) : ReadsFields op (w :: ws) (fun bs => withField w bs k) where
  accepts bs := by
    constructor
    · rintro ⟨i, h⟩
      obtain ⟨v, rest, rfl, hv⟩ := withField_ok h
      exact (fieldsFit_putField hw v ws rest).trans (((hk v).accepts rest).1 ⟨i, hv⟩)
    · intro h
      obtain ⟨v, rest, rfl, hv⟩ := exists_putField_of_fieldsFit h
      simpa using ((hk v).accepts rest).2 hv
  selector bs i h := by
    obtain ⟨v, rest, -, hv⟩ := withField_ok h
    exact (hk v).selector rest i hv

theorem readsFields_withFlag {op : Byte} {ws : List Nat} {k : Bool → List Byte → Except DecodeError Instr}
    (hk : ∀ b, ReadsFields op ws (k b)) : ReadsFields op (1 :: ws) (fun bs => withFlag bs k) :=
  readsFields_withField one_pos fun _ => hk _

theorem readsFields_withTimeOfDay {op : Byte} {ws : List Nat} {k : TimeOfDay → List Byte → Except DecodeError Instr}
    (hk : ∀ r, ReadsFields op ws (k r)) : ReadsFields op (3 :: 5 :: 6 :: ws) (fun bs => withTimeOfDay bs k) :=
  readsFields_withField (by norm_num) fun _ => readsFields_withField (by norm_num) fun _ =>
  readsFields_withField (by norm_num) fun _ => hk _

theorem readsFields_withCalendarDate {op : Byte} {ws : List Nat}
    {k : CalendarDate → List Byte → Except DecodeError Instr} (hk : ∀ r, ReadsFields op ws (k r)) :
    ReadsFields op (8 :: 8 :: ws) (fun bs => withCalendarDate bs k) :=
  readsFields_withField (by norm_num) fun _ => readsFields_withField (by norm_num) fun _ => hk _

theorem readsFields_withFaultFlags {op : Byte} {ws : List Nat}
    {k : FaultFlags → List Byte → Except DecodeError Instr} (hk : ∀ r, ReadsFields op ws (k r)) :
    ReadsFields op (8 :: 1 :: 1 :: 1 :: 1 :: 1 :: 1 :: ws) (fun bs => withFaultFlags bs k) :=
  readsFields_withField (by norm_num) fun _ => readsFields_withFlag fun _ => readsFields_withFlag fun _ =>
  readsFields_withFlag fun _ => readsFields_withFlag fun _ => readsFields_withFlag fun _ => readsFields_withFlag fun _ =>
  hk _

theorem readsFields_withConfigFlags {op : Byte} {ws : List Nat}
    {k : ConfigFlags → List Byte → Except DecodeError Instr} (hk : ∀ r, ReadsFields op ws (k r)) :
    ReadsFields op (1 :: 1 :: 1 :: 1 :: 1 :: 1 :: ws) (fun bs => withConfigFlags bs k) :=
  readsFields_withFlag fun _ => readsFields_withFlag fun _ => readsFields_withFlag fun _ => readsFields_withFlag fun _ =>
  readsFields_withFlag fun _ => readsFields_withFlag fun _ => hk _

theorem readsFields_withStatus {op : Byte} {ws : List Nat} {k : Status → List Byte → Except DecodeError Instr}
    (hk : ∀ r, ReadsFields op ws (k r)) :
    ReadsFields op (1 :: 1 :: 1 :: 1 :: 1 :: 1 :: 1 :: 1 :: 1 :: 1 :: 1 :: 1 :: ws) (fun bs => withStatus bs k) :=
  readsFields_withFlag fun _ => readsFields_withFlag fun _ => readsFields_withFlag fun _ => readsFields_withFlag fun _ =>
  readsFields_withFlag fun _ => readsFields_withFlag fun _ => readsFields_withFlag fun _ => readsFields_withFlag fun _ =>
  readsFields_withFlag fun _ => readsFields_withFlag fun _ => readsFields_withFlag fun _ => readsFields_withFlag fun _ =>
  hk _

/-! The operand fields follow the selector as `operandWidths` lists them (R100, R101). -/

theorem eq_ofNat_of_toNat {n : Nat} {op : Byte} (h : op.toNat = n) : op = BitVec.ofNat 8 n := by
  subst h
  simp

/-- A request with an assigned selector is read as its operand fields. -/
theorem readsFields_decodeRequest {op : Byte} {ws : List Nat} (h : operandWidths op = some ws) :
    ReadsFields op ws (fun bs => decodeRequest (op :: bs)) := by
  unfold operandWidths at h
  split at h
  case h_75 => cases h
  all_goals
    cases h
    rename_i h
    obtain rfl := eq_ofNat_of_toNat h
  -- the commands with one operand
  case h_2 | h_3 | h_4 | h_6 | h_7 | h_8 | h_9 | h_10 | h_11 | h_12 | h_13 | h_15 | h_17
      | h_18 | h_20 | h_22 | h_23 | h_25 | h_28 | h_29 | h_30 | h_31 | h_32 | h_36 =>
    exact readsFields_withField (by norm_num) fun _ => readsFields_endOf rfl
  -- `BLDWR`, `ENCU8U8` and `XACT`, with two
  case h_5 | h_14 | h_27 =>
    exact readsFields_withField (by norm_num) fun _ => readsFields_withField (by norm_num) fun _ =>
      readsFields_endOf rfl
  -- `PACK`, with three
  case h_1 =>
    exact readsFields_withField (by norm_num) fun _ => readsFields_withField (by norm_num) fun _ =>
      readsFields_withField (by norm_num) fun _ => readsFields_endOf rfl
  -- `WR_CH_DHW_ENABLE`, with two flags, and the commands with a record
  case h_33 => exact readsFields_withFlag fun _ => readsFields_withFlag fun _ => readsFields_endOf rfl
  case h_16 => exact readsFields_withStatus (k := fun r => endOf (.encstatus r)) fun _ => readsFields_endOf rfl
  case h_19 => exact readsFields_withConfigFlags (k := fun r => endOf (.enccfg r)) fun _ => readsFields_endOf rfl
  case h_21 => exact readsFields_withFaultFlags (k := fun r => endOf (.encfault r)) fun _ => readsFields_endOf rfl
  case h_24 | h_34 => exact readsFields_withTimeOfDay fun _ => readsFields_endOf rfl
  case h_26 | h_35 => exact readsFields_withCalendarDate fun _ => readsFields_endOf rfl
  -- the typed reads, without an operand
  all_goals exact readsFields_endOf rfl

theorem decodeRequest_unassigned {op : Byte} (h : operandWidths op = none) (bs : List Byte) :
    decodeRequest (op :: bs) = .error (.unassignedSelector op) := by
  unfold operandWidths at h
  split at h
  case h_75 => simp only [decodeRequest, *]
  all_goals cases h

/-- What a request decodes to is a command with the request's selector (R20, R101). -/
theorem selectorOf_decodeRequest {op : Byte} {bs : List Byte} {i : Instr} (h : decodeRequest (op :: bs) = .ok i) :
    selectorOf i = some op := by
  cases hw : operandWidths op with
  | none =>
    rw [decodeRequest_unassigned hw] at h
    cases h
  | some ws => exact (readsFields_decodeRequest hw).selector bs i h

/-- Settles O3: an assigned selector has its fields read one by one, and an unassigned one is no request. -/
theorem requestDecodesIffWellFormed : Obligations.RequestDecodesIffWellFormed := by
  intro bytes
  cases bytes with
  | nil => simp [decode, decodeRequest, requestWellFormed]
  | cons op bs =>
    cases hw : operandWidths op with
    | none => simp [decode, requestWellFormed, hw, decodeRequest_unassigned hw bs]
    | some ws => simpa [decode, requestWellFormed, hw] using (readsFields_decodeRequest hw).accepts bs

end Sys2Proof.Machine
end

section
/-! SUPPORT. The parity and the line code of a frame as the statements count them: what an accepted capture carries, that a
frame's own capture decodes to it, and that the frames the block builds have even parity. -/

namespace Sys2Proof.Machine

theorem popcountBelow_eq_countP {w : Nat} (v : BitVec w) (k : Nat) :
    popcountBelow v k = (List.range k).countP fun i => v.getLsbD i := by
  induction k with
  | zero => rfl
  | succ k ih => cases hk : v.getLsbD k <;> simp [popcountBelow, List.range_succ, ih, hk]

/-- Counting the set bits of a word from below is counting them one by one (R10). -/
theorem popcount_eq_setBits {w : Nat} (v : BitVec w) : popcount v = setBits v := popcountBelow_eq_countP v w

theorem evenParity_iff_setBits (f : Frame) : evenParity f = true ↔ setBits f % 2 = 0 := by
  rw [evenParity, popcount_eq_setBits, beq_iff_eq]

/-- A capture the engine accepts decodes to its frame, and that frame has an even number of set bits (R238). -/
theorem checkCapture_ok {c : Capture} {f : Frame} (h : checkCapture c = .ok f) :
    manchesterDecode c = .ok f ∧ setBits f % 2 = 0 := by
  unfold checkCapture at h
  split at h
  · cases h
  · rename_i decoded
    split_ifs at h with even
    cases h
    exact ⟨decoded, (evenParity_iff_setBits f).1 even⟩

/-- The capture of a frame decodes to that frame (R147). -/
theorem manchesterDecode_manchesterEncode (f : Frame) : manchesterDecode (manchesterEncode f) = .ok f := by
  have marker : ∀ k, k = 0 ∨ k = 33 → capturePair (manchesterEncode f) k = (true, false) := fun k hk => by
    rw [capturePair_manchesterEncode f k (by omega), if_pos hk]
  rw [manchesterDecode_framed (marker 0 (.inl rfl)) (marker 33 (.inr rfl)), decodePairs_ok_iff _ 32 le_rfl]
  refine ⟨fun j hj => ?_, fun i hi => BitVec.getLsbD_of_ge f i hi⟩
  rw [capturePair_manchesterEncode f (j + 1) (by omega), if_neg (by omega), show 32 - (j + 1) = 32 - 1 - j by omega]
  cases f.getLsbD (32 - 1 - j) <;> rfl

/-- A frame word is bit 31 above the 31 bits of the body (R80). -/
theorem frameWord_eq_append (p : Bool) (m : BitVec 3) (sp : BitVec 4) (d : Byte) (v : DataValue) :
    frameWord p m sp d v = (BitVec.ofBool p ++ (m ++ sp ++ d ++ v) : BitVec (1 + 31)) := by
  simp only [frameWord, BitVec.append_assoc, BitVec.cast_eq]

/-- Bit 31 of a packed frame makes the number of its set bits even (R121, R126). -/
theorem evenParity_packFrame (m : BitVec 3) (d : Byte) (v : DataValue) : evenParity (packFrame m d v) = true := by
  rw [evenParity, packFrame, frameWord_eq_append, popcount_ofBool_append, parity31]
  rcases Nat.mod_two_eq_zero_or_one (popcount (m ++ 0#4 ++ d ++ v : BitVec 31)) with h | h <;> simp [h, Nat.add_mod]

end Sys2Proof.Machine
end

section
/-! SUPPORT. What a command that starts a transaction latches (R232): the request it transmits belongs to it, as
`startedBy` says. -/

namespace Sys2Proof.Machine

theorem startedBy_read {i : Instr} {d : Byte} {dec : Decoder} (row : (d, dec) ∈ registry)
    (hi : selectorOf i = some (0x80#8 + d)) : startedBy ⟨i, .store dec⟩ (buildRead d) = true := by
  simp only [startedBy, List.any_eq_true]
  exact ⟨(d, dec), row, by simp [hi]⟩

theorem startedBy_write {i : Instr} {sel d : Byte} (row : (sel, d) ∈ writeIds) (hi : selectorOf i = some sel)
    (v : DataValue) : startedBy ⟨i, .acknowledge⟩ (buildWrite d v) = true := by
  have even : evenParity (buildWrite d v) = true := evenParity_packFrame _ d v
  simp only [startedBy, List.any_eq_true]
  exact ⟨(sel, d), row, by simp [hi, even]; simp [buildWrite, packFrame]⟩

/-- What the command leaves in `XCMD` and `XREQ` belongs together. -/
def LatchesItsRequest (i : Instr) (s : State) : Prop := ∀ t, exec i s = .next t → startedBy t.xcmd t.xreq = true

section
variable {i : Instr} {s : State}

theorem latchesItsRequest_of_start {x : XCmd} {r : Frame} {m : Millis} {u : State} (started : startedBy x r = true)
    (h : exec i s = .next (startTransaction x r m u)) : LatchesItsRequest i s := by
  intro t ht
  cases h.symm.trans ht
  simpa using started

theorem latchesItsRequest_of_read {d : Byte} {dec : Decoder} (hs : s.fsm = .idle)
    (h : exec i s = .next (typedRead i d dec s)) (hi : selectorOf i = some (0x80#8 + d)) (row : (d, dec) ∈ registry) :
    LatchesItsRequest i s :=
  latchesItsRequest_of_start (startedBy_read row hi) (h.trans (congrArg _ (typedRead_idle hs)))

theorem latchesItsRequest_of_write {sel d : Byte} {v : DataValue} (hs : s.fsm = .idle)
    (h : exec i s = .next (typedWrite i d v s)) (hi : selectorOf i = some sel) (row : (sel, d) ∈ writeIds) :
    LatchesItsRequest i s :=
  latchesItsRequest_of_start (startedBy_write row hi v) (h.trans (congrArg _ (typedWrite_idle hs)))

theorem latchesItsRequest_of_setpoint {sel d : Byte} {x : F32} (hs : s.fsm = .idle)
    (h : exec i s = .next (setpointWrite i d x s)) (hi : selectorOf i = some sel) (row : (sel, d) ∈ writeIds) :
    LatchesItsRequest i s := by
  obtain ⟨v, u, -, hv⟩ := setpointWrite_cases (c := i) (i := d) (t := x) hs
  exact latchesItsRequest_of_start (startedBy_write row hi v) (h.trans (congrArg _ hv))

end

/-- Every command that needs a transaction latches its own request in `Idle` (R28, R232). -/
theorem exec_latchesItsRequest {i : Instr} {s : State} (hi : startsTransaction i = true) (hs : s.fsm = .idle) :
    LatchesItsRequest i s := by
  cases i
  case xact r m =>
    exact latchesItsRequest_of_start (x := ⟨.xact r m, .replyFrame⟩) (decide_eq_true rfl)
      ((exec_xact s r m).trans (congrArg _ (whenIdle_idle hs)))
  case wrControlSetpoint | wrRoomSetpoint | wrDhwSetpoint | wrMaxChSetpoint =>
    exact latchesItsRequest_of_setpoint hs rfl rfl (by decide)
  case wrChDhwEnable | wrDaytime | wrDate | wrYear => exact latchesItsRequest_of_write hs rfl rfl (by decide)
  case pack | unpack | vpar | bldrd | bldwr | mdec | menc | f88tof | f88fromf | getu16 | gets16 | getf88 | decu8u8
      | encu8u8 | decstatus | encstatus | decmcfg | decscfg | enccfg | decfault | encfault | decrp | dectime | enctime
      | decdate | encdate | settmo | frameReadData | frameWriteData | frameInvalidData | frameReserved | frameReadAck
      | frameWriteAck | frameDataInvalid | frameUnknownDataid =>
    exact (Bool.false_ne_true hi).elim
  -- the typed reads
  all_goals exact latchesItsRequest_of_read hs rfl rfl (by decide)

end Sys2Proof.Machine
end

section
/-! SUPPORT. What a step does to the block, said once: the registers, the frames sent and the replies given. -/

namespace Sys2Proof.Machine

/-- The registers of the block, the frames sent and the replies given are the same: `s` and `u` differ at most in the moves
to come, the time, the free values drawn and the host's reads. -/
structure SameBlock (s u : State) : Prop where
  fsm : u.fsm = s.fsm
  timeout : u.timeout = s.timeout
  xreq : u.xreq = s.xreq
  xt0 : u.xt0 = s.xt0
  xtmo : u.xtmo = s.xtmo
  xcmd : u.xcmd = s.xcmd
  out : u.out = s.out
  outWritten : u.outWritten = s.outWritten
  sent : u.sent = s.sent
  replies : u.replies = s.replies

theorem SameBlock.refl (s : State) : SameBlock s s := ⟨rfl, rfl, rfl, rfl, rfl, rfl, rfl, rfl, rfl, rfl⟩

theorem SameBlock.trans {s t u : State} (hst : SameBlock s t) (htu : SameBlock t u) : SameBlock s u where
  fsm := htu.fsm.trans hst.fsm
  timeout := htu.timeout.trans hst.timeout
  xreq := htu.xreq.trans hst.xreq
  xt0 := htu.xt0.trans hst.xt0
  xtmo := htu.xtmo.trans hst.xtmo
  xcmd := htu.xcmd.trans hst.xcmd
  out := htu.out.trans hst.out
  outWritten := htu.outWritten.trans hst.outWritten
  sent := htu.sent.trans hst.sent
  replies := htu.replies.trans hst.replies

theorem sameBlock_popInput (s : State) : SameBlock s s.popInput := by
  constructor <;> rfl

theorem sameBlock_draw (s : State) : SameBlock s s.draw := by
  constructor <;> rfl

theorem sameBlock_sleep (s : State) : SameBlock s s.sleep := by
  constructor <;> rfl

theorem sameBlock_recordRead (r : OutRead) (s : State) : SameBlock s (s.recordRead r) := by
  constructor <;> rfl

theorem sameBlock_passTime (s : State) : SameBlock s s.passTime := by
  constructor <;> simp

theorem sameBlock_of_drawn {s u : State} (h : u = s ∨ u = s.draw) : SameBlock s u := by
  rcases h with rfl | rfl
  · exact .refl u
  · exact sameBlock_draw s

theorem sameBlock_hostReadOut (s : State) : SameBlock s (hostReadOut s) := by
  rcases hostReadOut_cases s with ⟨-, h⟩ | ⟨-, h⟩ <;> rw [h]
  · exact sameBlock_recordRead _ s
  · exact (sameBlock_draw s).trans (sameBlock_recordRead _ s.draw)

/-- Everything a step can do to the block: nothing; one reply; a write of `TIMEOUT` that a `SETTMO` asked for; the start of
a transaction, its end with a frame that this step's poll returned or with `TimedOut`; the reset. -/
inductive StepEffect (s : State) : State → Prop
  | quiet {t : State} (same : SameBlock s t) : StepEffect s t
  | replied {u : State} {i : Instr} {a : Answer} (same : SameBlock s u) : StepEffect s (u.pushReply i a)
  | settmo {u : State} {ms : Millis} {waits : Bool} {bytes : List Byte} {rest : List Input} (idle : s.fsm = .idle)
      (asked : s.inputs = .request waits bytes :: rest) (decoded : decode (.request bytes) = .ok (.settmo ms))
      (same : SameBlock s u) : StepEffect s ((u.setTimeout ms).pushReply (.settmo ms) (.ok .none))
  | started {u : State} {x : XCmd} {r : Frame} {m : Millis} (idle : s.fsm = .idle) (belongs : startedBy x r = true)
      (same : SameBlock s u) : StepEffect s (startTransaction x r m u)
  | succeeded {u : State} {f : Frame} (inFlight : s.fsm = .awaitingResponse) (received : s.receives f)
      (even : setBits f % 2 = 0) (same : SameBlock s u) : StepEffect s (completeOk f u)
  | timedOut {u : State} (inFlight : s.fsm = .awaitingResponse) (same : SameBlock s u) :
      StepEffect s ((u.setFsm .idle).pushReply s.xcmd.cmd (.err .timedOut))
  | reset {u : State} {rest : List Input} (event : s.inputs = .reset :: rest) (same : SameBlock s u) :
      StepEffect s u.resetBlock

/-- An engine step whose answer is this step's poll: nothing, the end with the frame received, or `TimedOut` (R235). -/
theorem stepEffect_iterate {s u : State} {a : Option Capture} (same : SameBlock s u)
    (answer : ∀ c f, a = some c → manchesterDecode c = .ok f → s.receives f) : StepEffect s (iterate a u) := by
  rcases iterate_cases a u with ⟨-, h⟩ | ⟨hf, c, f, ha, hc, h⟩ | ⟨hf, -, h⟩ | ⟨-, -, h⟩ <;> rw [h]
  · exact .quiet same
  · obtain ⟨decoded, even⟩ := checkCapture_ok hc
    exact .succeeded (same.fsm.symm.trans hf) (answer c f ha decoded) even same
  · rw [same.xcmd]
    exact .timedOut (same.fsm.symm.trans hf) (same.trans (sameBlock_passTime u))
  · exact .quiet ((same.trans (sameBlock_passTime u)).trans (sameBlock_sleep _))

/-- A command that a request presents replies at once, writes `TIMEOUT`, or starts its transaction. -/
theorem stepEffect_request {s t : State} {waits : Bool} {bytes : List Byte} {rest : List Input} {i : Instr}
    (asked : s.inputs = .request waits bytes :: rest) (decoded : decode (.request bytes) = .ok i)
    (h : exec i s.popInput = .next t) : StepEffect s t := by
  have pop := sameBlock_popInput s
  cases exec_cases h with
  | ok _ drawn => exact .replied (pop.trans (sameBlock_of_drawn drawn))
  | decodeError | busy => exact .replied pop
  | settmo cmd idle =>
    subst cmd
    exact .settmo idle asked decoded pop
  | start starts idle _ drawn =>
    have belongs := exec_latchesItsRequest starts idle _ h
    simp only [startTransaction_xcmd, startTransaction_xreq] at belongs
    exact .started idle belongs (pop.trans (sameBlock_of_drawn drawn))
  | poll noCommand =>
    cases bytes with
    | nil => cases decoded
    | cons op bs => exact absurd noCommand (by simp [selectorOf_decodeRequest decoded])

theorem step_effect {s t : State} (h : step s = .next t) : StepEffect s t := by
  have pop := sameBlock_popInput s
  rcases step_cases h with ⟨waits, bytes, rest, i, asked, decoded, he⟩ | ⟨f, rest, line, he⟩ | ⟨-, rfl⟩ | ⟨-, -, rfl⟩ |
    ⟨-, free, rfl⟩ | ⟨a, rest, scripted, rfl⟩ | ⟨rest, event, rfl⟩ | ⟨rest, -, rfl⟩
  · exact stepEffect_request asked decoded he
  · rw [exec_decodeWire] at he
    cases he
    refine stepEffect_iterate pop fun c g hc hg => .inr (.inl ⟨rest, ?_⟩)
    cases hc
    rw [manchesterDecode_manchesterEncode] at hg
    cases hg
    exact line
  · exact .quiet pop
  · exact .quiet (.refl t)
  · exact stepEffect_iterate (sameBlock_draw s) fun c f hc hf => .inr (.inr ⟨free, c, hc, hf⟩)
  · exact stepEffect_iterate pop fun c f hc hf => .inl ⟨c, rest, hc ▸ scripted, hf⟩
  · exact .reset event pop
  · exact .quiet (pop.trans (sameBlock_hostReadOut _))

end Sys2Proof.Machine
end

section
/-! CERTIFICATE. What changes the registers: `FSM` and the frames sent (O52), `TIMEOUT` (O53), `OUT` (O54), and the
registers of the transaction in flight (O56). -/

namespace Sys2Proof.Machine

/-- `Ok(f)` gives exactly one reply, an `Ok` to the command in `XCMD` (R351). -/
theorem completeOk_replies (f : Frame) (s : State) :
    ∃ v, (completeOk f s).replies = ⟨s.xcmd.cmd, .ok v⟩ :: s.replies := by
  rcases completeOk_cases f s with ⟨-, h⟩ | ⟨d, -, h⟩ | ⟨-, h⟩ <;> exact ⟨_, by rw [h]; rfl⟩

/-- From `s` to `t` the register `FSM`, the frames sent and the replies go as R22 and R242 say. -/
def FsmMoves (s t : State) : Prop :=
  (t.sent = s.sent ∨ (s.fsm = .idle ∧ t.fsm = .awaitingResponse ∧ t.sent = t.xreq :: s.sent)) ∧
  (s.fsm = .idle → t.fsm = .awaitingResponse → t.sent = t.xreq :: s.sent ∧ t.replies = s.replies) ∧
  (s.fsm = .awaitingResponse → t.fsm = .idle → t.sent = s.sent ∧
    ((∃ a, t.replies = ⟨s.xcmd.cmd, a⟩ :: s.replies ∧ (a = .err .timedOut ∨ ∃ v, a = .ok v)) ∨
     (t.replies = s.replies ∧ ∃ rest, s.inputs = .reset :: rest)))

theorem FsmMoves.of_stays {s t : State} (fsm : t.fsm = s.fsm) (sent : t.sent = s.sent) : FsmMoves s t :=
  ⟨.inl sent, fun hs ht => absurd (hs.symm.trans (fsm.symm.trans ht)) (by decide),
    fun hs ht => absurd (hs.symm.trans (fsm.symm.trans ht)) (by decide)⟩

theorem FsmMoves.of_start {s t : State} (hs : s.fsm = .idle) (ht : t.fsm = .awaitingResponse)
    (sent : t.sent = t.xreq :: s.sent) (replies : t.replies = s.replies) : FsmMoves s t :=
  ⟨.inr ⟨hs, ht, sent⟩, fun _ _ => ⟨sent, replies⟩, fun hs' => absurd (hs.symm.trans hs') (by decide)⟩

theorem FsmMoves.of_end {s t : State} (ht : t.fsm = .idle) (sent : t.sent = s.sent)
    (replies : (∃ a, t.replies = ⟨s.xcmd.cmd, a⟩ :: s.replies ∧ (a = .err .timedOut ∨ ∃ v, a = .ok v)) ∨
      (t.replies = s.replies ∧ ∃ rest, s.inputs = .reset :: rest)) : FsmMoves s t :=
  ⟨.inl sent, fun _ ht' => absurd (ht.symm.trans ht') (by decide), fun _ _ => ⟨sent, replies⟩⟩

/-- Settles O52, by the effects of a step: only the start of a transaction transmits, and only its end and the reset
leave `AwaitingResponse`. -/
theorem fsmTransitionsAndTransmissions : Obligations.FsmTransitionsAndTransmissions := by
  intro s t h
  change FsmMoves s t
  cases step_effect h with
  | quiet same | replied same | settmo _ _ _ same => exact .of_stays same.fsm same.sent
  | started idle _ same => exact .of_start idle rfl (by simp [same.sent]) (by simp [same.replies])
  | @succeeded u f _ _ _ same =>
    obtain ⟨v, hv⟩ := completeOk_replies f u
    rw [same.xcmd, same.replies] at hv
    exact .of_end (completeOk_fsm f u) ((completeOk_sent f u).trans same.sent) (.inl ⟨_, hv, .inr ⟨v, rfl⟩⟩)
  | timedOut _ same => exact .of_end rfl same.sent (.inl ⟨_, by simp [same.replies], .inl rfl⟩)
  | reset event same => exact .of_end rfl same.sent (.inr ⟨same.replies, _, event⟩)

/-- Settles O53, by the effects of a step: the start and the end of a transaction leave `TIMEOUT` as it is. -/
theorem timeoutIsWrittenOnlyBySettmo : Obligations.TimeoutIsWrittenOnlyBySettmo := by
  intro s t h changed
  cases step_effect h with
  | quiet same | replied same | timedOut _ same => exact absurd same.timeout changed
  | started _ _ same => exact absurd ((startTransaction_timeout ..).trans same.timeout) changed
  | succeeded _ _ _ same => exact absurd ((completeOk_timeout ..).trans same.timeout) changed
  | settmo idle asked decoded => exact .inl ⟨idle, _, _, _, asked, decoded⟩
  | reset event => exact .inr ⟨rfl, _, event⟩

theorem not_changed_of_eq {s t : State} (out : t.out = s.out) (written : t.outWritten = s.outWritten) :
    ¬(t.out ≠ s.out ∨ t.outWritten ≠ s.outWritten) := by simp [out, written]

/-- Settles O54, by the effects of a step, and for the end with `Ok` by how the command completes (R351). -/
theorem outIsWrittenOnlyBySuccessfulReads : Obligations.OutIsWrittenOnlyBySuccessfulReads := by
  intro s t h changed
  cases step_effect h with
  | quiet same | replied same | settmo _ _ _ same | timedOut _ same =>
    exact absurd changed (not_changed_of_eq same.out same.outWritten)
  | started _ _ same =>
    exact absurd changed (not_changed_of_eq (by simp [same.out]) (by simp [same.outWritten]))
  | @succeeded u f inFlight received even same =>
    rcases completeOk_cases f u with ⟨-, hu⟩ | ⟨d, store, hu⟩ | ⟨-, hu⟩ <;> rw [hu] at changed ⊢
    · exact absurd changed (not_changed_of_eq same.out same.outWritten)
    · rw [same.xcmd] at store
      exact .inl ⟨inFlight, rfl, rfl, by simp [same.xcmd, same.replies], d, f, store, received, even, rfl⟩
    · exact absurd changed (not_changed_of_eq same.out same.outWritten)
  | reset event => exact .inr ⟨rfl, _, event⟩

theorem TransactionHeld.of_eq {s t : State} (held : TransactionHeld s) (fsm : t.fsm = s.fsm) (sent : t.sent = s.sent)
    (xreq : t.xreq = s.xreq) (xcmd : t.xcmd = s.xcmd) : TransactionHeld t := by
  rw [TransactionHeld, fsm, sent, xreq, xcmd]
  exact held

theorem transactionHeld_of_idle {s : State} (h : s.fsm = .idle) : TransactionHeld s :=
  fun h' => absurd (h.symm.trans h') (by decide)

/-- Settles O56, by the effects of a step: a start makes the invariant true, its end and the reset leave nothing to hold,
and no other effect touches the registers it speaks of. -/
theorem stepKeepsTransactionHeld : Obligations.StepKeepsTransactionHeld := by
  intro s t held h
  cases step_effect h with
  | quiet same | replied same | settmo _ _ _ same => exact held.of_eq same.fsm same.sent same.xreq same.xcmd
  | started _ belongs => exact fun _ => by simp [belongs]
  | succeeded => exact transactionHeld_of_idle (completeOk_fsm _ _)
  | timedOut | reset => exact transactionHeld_of_idle rfl

end Sys2Proof.Machine
end

section
/-! CERTIFICATE. One answer of each pure command for all states (O32), the host's read of `OUT` (O9), and the state after
reset (O50, O58). -/

namespace Sys2Proof.Machine

/-- The command has one answer for all states, and its reply is all that it changes. -/
def AnswersAlike (i : Instr) : Prop :=
  ∃ a : Answer, ∀ s : State, exec i s = .next { s with replies := ⟨i, a⟩ :: s.replies }

theorem answersAlike_of_replyOk {i : Instr} {v : Value} (h : ∀ s, exec i s = .next (replyOk i v s)) :
    AnswersAlike i := ⟨.ok v, h⟩

theorem answersAlike_mdec (c : Capture) : AnswersAlike (.mdec c) := by
  cases h : manchesterDecode c with
  | ok f => exact answersAlike_of_replyOk fun s => exec_mdec_ok s h
  | error e =>
    refine ⟨.err e, fun s => (exec_mdec_error s h).trans ?_⟩
    rcases manchesterDecode_error h with rfl | rfl <;> rfl

theorem answersAlike_f88fromf {x : F32} (specified : f88FromFloat x ≠ none) : AnswersAlike (.f88fromf x) := by
  obtain ⟨v, hv⟩ := Option.ne_none_iff_exists'.1 specified
  exact answersAlike_of_replyOk fun s => exec_f88fromf_some s hv

/-- Settles O32, by cases on the command: the reply of each pure one is built from its operands. -/
theorem pureCommandsDependOnOperandsOnly : Obligations.PureCommandsDependOnOperandsOnly := by
  intro i isPure specified
  change AnswersAlike i
  cases i
  case mdec c => exact answersAlike_mdec c
  case f88fromf x => exact answersAlike_f88fromf (specified x rfl)
  case pack | unpack | vpar | bldrd | bldwr | menc | f88tof | getu16 | gets16 | getf88 | decu8u8 | encu8u8 | decstatus
      | encstatus | decmcfg | decscfg | enccfg | decfault | encfault | decrp | dectime | enctime | decdate | encdate =>
    exact answersAlike_of_replyOk fun _ => rfl
  -- the engine commands and the frame rows are not pure
  all_goals exact (Bool.false_ne_true isPure).elim

theorem popInput_of_inputs {s : State} {i : Input} {rest : List Input} (h : s.inputs = i :: rest) :
    s.popInput = { s with inputs := rest } := by simp [State.popInput, h]

theorem step_readOut {s : State} {rest : List Input} (h : s.inputs = .readOut :: rest) :
    step s = .next (hostReadOut { s with inputs := rest }) := by
  simp [step, nextAction, h, perform, popInput_of_inputs h]

/-- Settles O9: the step is the read, and `OUT` is written or not. -/
theorem hostReadOfOut : Obligations.HostReadOfOut := by
  intro s rest h
  rw [step_readOut h]
  rcases hostReadOut_cases { s with inputs := rest } with ⟨written, hr⟩ | ⟨unwritten, hr⟩ <;> rw [hr]
  · exact ⟨fun _ => rfl, fun no => absurd (written.symm.trans no) (by decide)⟩
  · exact ⟨fun yes => absurd (unwritten.symm.trans yes) (by decide), fun _ => ⟨_, rfl⟩⟩

/-- Settles O50: the values are those of `State.reset`. -/
theorem resetValues : Obligations.ResetValues := ⟨rfl, rfl, rfl, rfl, rfl, rfl, rfl⟩

/-- Settles O58: right after reset no transaction is in flight, and the poll interval is at least 1 (R8). -/
theorem resetMeetsTheInvariants : Obligations.ResetMeetsTheInvariants :=
  ⟨transactionHeld_of_idle rfl, Nat.le_add_left 1 Config.pollIntervalAboveOne⟩

end Sys2Proof.Machine
end

section
/-! CERTIFICATE. The packets of the instructions: the decoder reads back what the encoder writes (O1, O5, O6), accepts
nothing else (O2), and drops the selectors that are not assigned (O4). -/

namespace Sys2Proof.Machine

/-! ### Frame words (R80, R82) -/

/-- The row of the opcode table that a message type selects, with the frame's other four fields (R82). -/
def frameRow (p : Bool) (m : BitVec 3) (sp : BitVec 4) (d : Byte) (v : DataValue) : Instr :=
  match m.toNat with
  | 0 => .frameReadData p sp d v
  | 1 => .frameWriteData p sp d v
  | 2 => .frameInvalidData p sp d v
  | 3 => .frameReserved p sp d v
  | 4 => .frameReadAck p sp d v
  | 5 => .frameWriteAck p sp d v
  | 6 => .frameDataInvalid p sp d v
  | _ => .frameUnknownDataid p sp d v

theorem decodeWire_eq_frameRow (f : Frame) : decodeWire f =
    frameRow (frameParity f) (frameMsgType f) (frameSpare f) (frameDataId f) (frameDataValue f) := rfl

theorem decodeWire_frameWord (p : Bool) (m : BitVec 3) (sp : BitVec 4) (d : Byte) (v : DataValue) :
    decodeWire (frameWord p m sp d v) = frameRow p m sp d v := by
  simp [decodeWire_eq_frameRow]

theorem encode_frameRow (p : Bool) (m : BitVec 3) (sp : BitVec 4) (d : Byte) (v : DataValue) :
    encode (frameRow p m sp d v) = .wire (frameWord p m sp d v) := by
  have codes : ∀ m : BitVec 3, m ∈ [0#3, 1#3, 2#3, 3#3, 4#3, 5#3, 6#3, 7#3] := by decide
  have code := codes m
  simp only [List.mem_cons, List.not_mem_nil, or_false] at code
  rcases code with rfl | rfl | rfl | rfl | rfl | rfl | rfl | rfl <;> rfl

/-- The row read from a frame word has that word for its packet: no bit of it is ignored (R80). -/
theorem encode_decodeWire (f : Frame) : encode (decodeWire f) = .wire f := by
  rw [decodeWire_eq_frameRow, encode_frameRow, frameWord_fields]

/-! ### From the instruction to its packet and back -/

/-- Settles O1: each operand field is read back from its bytes, and a frame word's row from its message type. -/
theorem decodeOfEncodeIsTheInstruction : Obligations.DecodeOfEncodeIsTheInstruction := by
  intro i
  cases i
  case frameReadData | frameWriteData | frameInvalidData | frameReserved | frameReadAck | frameWriteAck
      | frameDataInvalid | frameUnknownDataid =>
    exact congrArg Except.ok (decodeWire_frameWord ..)
  -- the commands whose operands are single fields
  case pack | unpack | vpar | bldrd | bldwr | mdec | menc | f88tof | f88fromf | getu16 | gets16 | getf88 | decu8u8
      | encu8u8 | decstatus | decmcfg | decscfg | decfault | decrp | dectime | decdate | xact | settmo
      | wrControlSetpoint | wrRoomSetpoint | wrDhwSetpoint | wrMaxChSetpoint | wrChDhwEnable | wrYear =>
    simp [encode, decode, decodeRequest]
  -- the commands with a record
  case encstatus r => exact withStatus_putStatus r fun r => endOf (.encstatus r)
  case enccfg r => exact withConfigFlags_putConfigFlags r fun r => endOf (.enccfg r)
  case encfault r => exact withFaultFlags_putFaultFlags r fun r => endOf (.encfault r)
  case enctime r => exact withTimeOfDay_putTimeOfDay r fun r => endOf (.enctime r)
  case encdate r => exact withCalendarDate_putCalendarDate r fun r => endOf (.encdate r)
  case wrDaytime r => exact withTimeOfDay_putTimeOfDay r fun r => endOf (.wrDaytime r)
  case wrDate r => exact withCalendarDate_putCalendarDate r fun r => endOf (.wrDate r)
  -- the typed reads, without an operand
  all_goals rfl

/-- Settles O5: each word is the packet of its row, so O1 reads it. -/
theorem messageTypeSelectsTheFrameRow : Obligations.MessageTypeSelectsTheFrameRow := fun p sp d v =>
  have reads := decodeOfEncodeIsTheInstruction
  ⟨reads (.frameReadData p sp d v), reads (.frameWriteData p sp d v), reads (.frameInvalidData p sp d v),
    reads (.frameReserved p sp d v), reads (.frameReadAck p sp d v), reads (.frameWriteAck p sp d v),
    reads (.frameDataInvalid p sp d v), reads (.frameUnknownDataid p sp d v)⟩

/-! ### From a request to its instruction and back -/

/-- What reading the rest of a request does once its bytes `pre` are read: the command it reads has those bytes and the
rest for its packet, and no selector is found to be unassigned any more. -/
structure ReadsRest (pre : List Byte) (read : List Byte → Except DecodeError Instr) : Prop where
  packet : ∀ bs i, read bs = .ok i → encode i = .request (pre ++ bs)
  assigned : ∀ bs op, read bs ≠ .error (.unassignedSelector op)

theorem readsRest_endOf {pre : List Byte} {i : Instr} (hi : encode i = .request pre) : ReadsRest pre (endOf i) where
  packet bs j h := by
    obtain ⟨rfl, rfl⟩ := endOf_ok h
    rw [hi, List.append_nil]
  assigned bs op := by cases bs <;> simp [endOf]

theorem readsRest_withField {pre : List Byte} {w : Nat} {k : BitVec w → List Byte → Except DecodeError Instr}
    (hk : ∀ v, ReadsRest (pre ++ putField v) (k v)) : ReadsRest pre (fun bs => withField w bs k) where
  packet bs i h := by
    obtain ⟨v, rest, rfl, hv⟩ := withField_ok h
    rw [(hk v).packet rest i hv, List.append_assoc]
  assigned bs op := by
    unfold withField
    split
    · simp
    · split
      · exact (hk _).assigned _ op
      · simp

theorem readsRest_withFlag {pre : List Byte} {k : Bool → List Byte → Except DecodeError Instr}
    (hk : ∀ b, ReadsRest (pre ++ putFlag b) (k b)) : ReadsRest pre (fun bs => withFlag bs k) :=
  readsRest_withField fun v => by
    rcases BitVec.eq_zero_or_eq_one v with rfl | rfl
    · exact hk false
    · exact hk true

section Records
variable {pre : List Byte}

theorem readsRest_withTimeOfDay {k : TimeOfDay → List Byte → Except DecodeError Instr}
    (hk : ∀ r, ReadsRest (pre ++ putTimeOfDay r) (k r)) : ReadsRest pre (fun bs => withTimeOfDay bs k) :=
  readsRest_withField fun d => readsRest_withField fun h => readsRest_withField fun m => by
    simpa [putTimeOfDay] using hk ⟨d, h, m⟩

theorem readsRest_withCalendarDate {k : CalendarDate → List Byte → Except DecodeError Instr}
    (hk : ∀ r, ReadsRest (pre ++ putCalendarDate r) (k r)) : ReadsRest pre (fun bs => withCalendarDate bs k) :=
  readsRest_withField fun m => readsRest_withField fun d => by simpa [putCalendarDate] using hk ⟨m, d⟩

theorem readsRest_withFaultFlags {k : FaultFlags → List Byte → Except DecodeError Instr}
    (hk : ∀ r, ReadsRest (pre ++ putFaultFlags r) (k r)) : ReadsRest pre (fun bs => withFaultFlags bs k) :=
  readsRest_withField fun code => readsRest_withFlag fun sr => readsRest_withFlag fun lr => readsRest_withFlag fun lw =>
  readsRest_withFlag fun gf => readsRest_withFlag fun ap => readsRest_withFlag fun wo => by
    simpa [putFaultFlags] using hk ⟨code, sr, lr, lw, gf, ap, wo⟩

theorem readsRest_withConfigFlags {k : ConfigFlags → List Byte → Except DecodeError Instr}
    (hk : ∀ r, ReadsRest (pre ++ putConfigFlags r) (k r)) : ReadsRest pre (fun bs => withConfigFlags bs k) :=
  readsRest_withFlag fun dp => readsRest_withFlag fun ct => readsRest_withFlag fun cc => readsRest_withFlag fun dc =>
  readsRest_withFlag fun mp => readsRest_withFlag fun c2 => by
    simpa [putConfigFlags] using hk ⟨dp, ct, cc, dc, mp, c2⟩

theorem readsRest_withStatus {k : Status → List Byte → Except DecodeError Instr}
    (hk : ∀ r, ReadsRest (pre ++ putStatus r) (k r)) : ReadsRest pre (fun bs => withStatus bs k) :=
  readsRest_withFlag fun ch => readsRest_withFlag fun dhw => readsRest_withFlag fun ce => readsRest_withFlag fun otc =>
  readsRest_withFlag fun ch2 => readsRest_withFlag fun fa => readsRest_withFlag fun chm => readsRest_withFlag fun dhwm =>
  readsRest_withFlag fun fl => readsRest_withFlag fun co => readsRest_withFlag fun ch2m => readsRest_withFlag fun di => by
    simpa [putStatus] using hk ⟨ch, dhw, ce, otc, ch2, fa, chm, dhwm, fl, co, ch2m, di⟩

end Records

/-- A request with an assigned selector is read as the encoder writes it (R100, R101). -/
theorem readsRest_decodeRequest {op : Byte} {ws : List Nat} (h : operandWidths op = some ws) :
    ReadsRest [op] (fun bs => decodeRequest (op :: bs)) := by
  unfold operandWidths at h
  split at h
  case h_75 => cases h
  all_goals
    clear h
    rename_i h
    obtain rfl := eq_ofNat_of_toNat h
  -- the commands with one operand
  case h_2 | h_3 | h_4 | h_6 | h_7 | h_8 | h_9 | h_10 | h_11 | h_12 | h_13 | h_15 | h_17
      | h_18 | h_20 | h_22 | h_23 | h_25 | h_28 | h_29 | h_30 | h_31 | h_32 | h_36 =>
    exact readsRest_withField fun _ => readsRest_endOf rfl
  -- `BLDWR`, `ENCU8U8` and `XACT`, with two
  case h_5 | h_14 | h_27 => exact readsRest_withField fun _ => readsRest_withField fun _ => readsRest_endOf rfl
  -- `PACK`, with three
  case h_1 =>
    exact readsRest_withField fun _ => readsRest_withField fun _ => readsRest_withField fun _ =>
      readsRest_endOf (by simp [encode])
  -- `WR_CH_DHW_ENABLE`, with two flags, and the commands with a record
  case h_33 => exact readsRest_withFlag fun _ => readsRest_withFlag fun _ => readsRest_endOf rfl
  case h_16 => exact readsRest_withStatus (k := fun r => endOf (.encstatus r)) fun _ => readsRest_endOf rfl
  case h_19 => exact readsRest_withConfigFlags (k := fun r => endOf (.enccfg r)) fun _ => readsRest_endOf rfl
  case h_21 => exact readsRest_withFaultFlags (k := fun r => endOf (.encfault r)) fun _ => readsRest_endOf rfl
  case h_24 | h_34 => exact readsRest_withTimeOfDay fun _ => readsRest_endOf rfl
  case h_26 | h_35 => exact readsRest_withCalendarDate fun _ => readsRest_endOf rfl
  -- the typed reads, without an operand
  all_goals exact readsRest_endOf rfl

/-- Settles O2: a request is read as the encoder writes it, and so is every frame word. -/
theorem encodeOfDecodeIsThePacket : Obligations.EncodeOfDecodeIsThePacket := by
  intro p i h
  cases p with
  | wire f =>
    cases h
    exact encode_decodeWire f
  | request bytes =>
    cases bytes with
    | nil => cases h
    | cons op bs =>
      cases hw : operandWidths op with
      | none => exact absurd ((decodeRequest_unassigned hw bs).symm.trans h) (by simp)
      | some ws => exact (readsRest_decodeRequest hw).packet bs i h

/-! ### Selectors that are not assigned (R101) -/

/-- The assigned selectors are those R101 lists and, above 0x80, the registered data-ids. -/
theorem operandWidths_eq_none_iff (op : Byte) : operandWidths op = none ↔
    ¬(op.toNat ∈ [0x01, 0x02, 0x03, 0x04, 0x05, 0x10, 0x11, 0x20, 0x21, 0x22, 0x23, 0x24, 0x30, 0x31, 0x32, 0x33, 0x34,
        0x35, 0x36, 0x37, 0x38, 0x39, 0x3A, 0x3B, 0x3C, 0x3D, 0x40, 0x41, 0x50, 0x51, 0x52, 0x53, 0x54, 0x55, 0x56, 0x57]
      ∨ ∃ row ∈ registry, op.toNat = 0x80 + row.1.toNat) := by
  revert op
  decide +kernel

theorem decodeRequest_unassigned_iff (op : Byte) (bs : List Byte) :
    decodeRequest (op :: bs) = .error (.unassignedSelector op) ↔ operandWidths op = none := by
  refine ⟨fun h => ?_, fun h => decodeRequest_unassigned h bs⟩
  cases hw : operandWidths op with
  | none => rfl
  | some ws => exact absurd h ((readsRest_decodeRequest hw).assigned bs op)

theorem step_request {s : State} {bytes : List Byte} {rest : List Input}
    (h : s.inputs = .request false bytes :: rest) :
    step s = perform (presentPacket (.request bytes) { s with inputs := rest }) := by
  simp [step, nextAction, h, popInput_of_inputs h]

/-- Settles O4: of an assigned selector the fields are read, and an unassigned one is dropped. -/
theorem unassignedSelectorChangesNothing : Obligations.UnassignedSelectorChangesNothing := by
  intro op bs s rest
  have refused := (decodeRequest_unassigned_iff op bs).trans (operandWidths_eq_none_iff op)
  refine ⟨fun assigned h => refused.1 h assigned, fun unassigned inputs => ?_⟩
  have dropped : decode (.request (op :: bs)) = .error (.unassignedSelector op) := refused.2 unassigned
  rw [step_request inputs]
  simp [presentPacket, dropped, perform]

/-- Settles O6: the decoder runs on each of the seven words. -/
theorem sampleWordsDecode : Obligations.SampleWordsDecode := ⟨rfl, rfl, rfl, rfl, rfl, rfl, rfl⟩

end Sys2Proof.Machine
end

section
/-! SUPPORT. Counting set bits through concatenation and exclusive or, and a packed frame by its body, its bit 31 and
its number (R121, R126). -/

namespace Sys2Proof.Machine

/-! ### Set bits (R10) -/

/-- Counted into its upper part, a concatenation has the set bits of the lower part and those counted there. -/
theorem popcountBelow_append {w w' : Nat} (a : BitVec w) (b : BitVec w') (k : Nat) :
    popcountBelow (a ++ b) (w' + k) = popcount b + popcountBelow a k := by
  induction k with
  | zero => exact popcountBelow_congr fun i hi => by rw [BitVec.getLsbD_append, if_pos (show i < w' from hi)]
  | succ k ih =>
    have bit : (a ++ b).getLsbD (w' + k) = a.getLsbD k := by simp [BitVec.getLsbD_append]
    rw [← Nat.add_assoc, popcountBelow, popcountBelow, ih, bit, Nat.add_assoc]

theorem popcount_append {w w' : Nat} (a : BitVec w) (b : BitVec w') :
    popcount (a ++ b) = popcount a + popcount b := by
  have whole := popcountBelow_append a b w
  rw [Nat.add_comm w' w, Nat.add_comm (popcount b)] at whole
  exact whole

@[simp] theorem popcount_zero (w : Nat) : popcount (0#w) = 0 := by
  rw [popcount_eq_setBits, setBits]
  simp

theorem popcountBelow_xor_mod_two {w : Nat} (a b : BitVec w) (k : Nat) :
    popcountBelow (a ^^^ b) k % 2 = (popcountBelow a k + popcountBelow b k) % 2 := by
  induction k with
  | zero => rfl
  | succ k ih =>
    simp only [popcountBelow, BitVec.getLsbD_xor]
    cases a.getLsbD k <;> cases b.getLsbD k <;> simp <;> omega

/-- An error pattern leaves the parity of a word as it is exactly where it flips an even number of bits (R128). -/
theorem evenParity_xor_eq_iff (w e : Frame) : evenParity (w ^^^ e) = evenParity w ↔ setBits e % 2 = 0 := by
  have sum : popcount (w ^^^ e) % 2 = (popcount w + popcount e) % 2 := popcountBelow_xor_mod_two w e 32
  rw [Bool.eq_iff_iff, evenParity, evenParity, beq_iff_eq, beq_iff_eq, ← popcount_eq_setBits]
  omega

/-- A pattern of one bit flips one bit. -/
theorem setBits_one_shiftLeft_odd {w i : Nat} (hi : i < w) : setBits (1#w <<< i) % 2 = 1 := by
  have bit (j : Nat) : (1#w <<< i).getLsbD j = decide (i = j) := by
    rw [← BitVec.twoPow_eq, BitVec.getLsbD_twoPow, decide_eq_true hi, Bool.true_and]
  have odd := popcountBelow_flip (a := 0#w) (b := 1#w <<< i) hi (by simp [bit]) fun j hj => by simp [bit, hj.symm]
  rw [show popcountBelow (0#w) w = 0 from popcount_zero w] at odd
  rw [← popcount_eq_setBits]
  exact odd

/-! ### Packed frames (R121) -/

/-- A frame word is of even parity exactly where its bit 31 is the one the parity generator gives (R126). -/
theorem evenParity_frameWord_iff (p : Bool) (m : BitVec 3) (sp : BitVec 4) (d : Byte) (v : DataValue) :
    evenParity (frameWord p m sp d v) = true ↔ p = parity31 (m ++ sp ++ d ++ v) := by
  rw [evenParity, frameWord_eq_append, popcount_ofBool_append, parity31]
  cases p
  · simp
  · simp
    omega

theorem parity31_eq_setBits (body : BitVec 31) : parity31 body = decide (setBits body % 2 = 1) := by
  rw [parity31, popcount_eq_setBits]
  rfl

theorem setBits_packFrame (m : BitVec 3) (d : Byte) (v : DataValue) : setBits (packFrame m d v) % 2 = 0 :=
  (evenParity_iff_setBits _).1 (evenParity_packFrame m d v)

theorem extractLsb'_packFrame (m : BitVec 3) (d : Byte) (v : DataValue) :
    (packFrame m d v).extractLsb' 0 31 = (m ++ 0#4 ++ d ++ v : BitVec 31) := by
  rw [packFrame, frameWord_eq_append]
  exact BitVec.extractLsb'_append_eq_right

theorem getLsbD_packFrame_parity (m : BitVec 3) (d : Byte) (v : DataValue) :
    (packFrame m d v).getLsbD 31 = parity31 (m ++ 0#4 ++ d ++ v) := frameParity_frameWord ..

theorem unpackFrame_packFrame (m : BitVec 3) (d : Byte) (v : DataValue) :
    unpackFrame (packFrame m d v) = ⟨parity31 (m ++ 0#4 ++ d ++ v), m, 0#4, d, v⟩ := by
  simp [unpackFrame, packFrame]

/-- Packing its own type, id and value gives a word back exactly where its spare bits are 0 and its parity is even. -/
theorem packFrame_fields_eq_iff (w : Frame) :
    packFrame (frameMsgType w) (frameDataId w) (frameDataValue w) = w ↔ frameSpare w = 0#4 ∧ evenParity w = true := by
  constructor
  · intro packed
    rw [← packed]
    exact ⟨frameSpare_frameWord .., evenParity_packFrame ..⟩
  · rintro ⟨spare, even⟩
    have word := frameWord_fields w
    rw [spare] at word
    have parity := (evenParity_frameWord_iff ..).1 (word.symm ▸ even)
    rw [packFrame, ← parity, word]

/-- A concatenation is the number of its upper part, moved above the lower part, plus that of the lower part. -/
theorem toNat_append_eq_add {w w' : Nat} (a : BitVec w) (b : BitVec w') :
    (a ++ b).toNat = a.toNat * 2 ^ w' + b.toNat := by
  rw [BitVec.toNat_append, ← Nat.shiftLeft_add_eq_or_of_lt b.isLt, Nat.shiftLeft_eq]

/-- A packed frame as a number: each field times the weight of its lowest bit (R80). -/
theorem toNat_packFrame (m : BitVec 3) (d : Byte) (v : DataValue) :
    (packFrame m d v).toNat = (parity31 (m ++ 0#4 ++ d ++ v)).toNat * 0x80000000 + m.toNat * 0x10000000
      + d.toNat * 65536 + v.toNat := by
  simp only [packFrame, frameWord, toNat_append_eq_add, BitVec.toNat_ofBool, BitVec.toNat_ofNat]
  omega

/-- Of a read request only the data-id has bits to count (R124). -/
theorem parity31_readRequest (d : Byte) :
    parity31 (0#3 ++ 0#4 ++ d ++ 0#16) = decide (setBits d % 2 = 1) := by
  have count : popcount (0#3 ++ 0#4 ++ d ++ 0#16) = setBits d := by
    simp only [popcount_append, popcount_zero, popcount_eq_setBits d, Nat.zero_add, Nat.add_zero]
  rw [← count]
  rfl

end Sys2Proof.Machine
end

section
/-! CERTIFICATE. FrameCodec: what `PACK` (O11), `UNPACK` (O12), `VPAR` (O13), `BLDRD` (O14) and `BLDWR` (O15) reply, and
the laws of packing and parity (O16, O17). -/

namespace Sys2Proof.Machine

/-- Settles O11: the 31 bits below bit 31 are the operands, and bit 31 is the parity the generator gives them. -/
theorem packRepliesTheFrame : Obligations.PackRepliesTheFrame := fun m d v s => by
  refine ⟨rfl, packFrame m d v, exec_pack s m d v, extractLsb'_packFrame m d v, ?_⟩
  rw [getLsbD_packFrame_parity, parity31_eq_setBits, extractLsb'_packFrame]

/-- Settles O12: the fields of R80 are those `UNPACK` reads. -/
theorem unpackRepliesTheFields : Obligations.UnpackRepliesTheFields := fun f s => ⟨rfl, exec_unpack s f⟩

/-- Settles O13: the parity check counts the set bits. -/
theorem vparRepliesEvenParity : Obligations.VparRepliesEvenParity := fun f s => by
  have counted : evenParity f = decide (setBits f % 2 = 0) := by
    rw [Bool.eq_iff_iff, evenParity_iff_setBits, decide_eq_true_iff]
  exact ⟨rfl, counted ▸ exec_vpar s f⟩

/-- Settles O14: the read request is a packed frame of type 0 and value 0, read as a number. -/
theorem bldrdRepliesTheReadRequest : Obligations.BldrdRepliesTheReadRequest := fun d s => by
  refine ⟨rfl, packFrame 0#3 d 0#16, exec_bldrd s d, exec_pack s 0#3 d 0#16, ?_⟩
  rw [toNat_packFrame, parity31_readRequest]
  by_cases odd : setBits d % 2 = 1
  · simp [odd, Nat.add_comm]
  · simp [odd]

/-- Settles O15: the write request is a packed frame of type 1; bit 31 is above the 31 bits the number is taken of. -/
theorem bldwrRepliesTheWriteRequest : Obligations.BldwrRepliesTheWriteRequest := fun d v s => by
  refine ⟨rfl, packFrame 1#3 d v, exec_bldwr s d v, exec_pack s 1#3 d v, ?_, setBits_packFrame 1#3 d v⟩
  rw [toNat_packFrame, show (1#3).toNat = 1 from rfl]
  omega

/-- Settles O16: a packed frame has even parity, and one flipped bit is an odd number of them. -/
theorem packUnpackParityLaws : Obligations.PackUnpackParityLaws := fun m d v => by
  refine ⟨unpackFrame_packFrame m d v, evenParity_packFrame m d v, fun i hi => ?_⟩
  have changed : evenParity (packFrame m d v ^^^ (1#32 <<< i)) ≠ evenParity (packFrame m d v) := fun same => by
    have even := (evenParity_xor_eq_iff _ _).1 same
    exact absurd (even.symm.trans (setBits_one_shiftLeft_odd hi)) (by decide)
  rw [evenParity_packFrame] at changed
  exact Bool.eq_false_of_not_eq_true changed

/-- Settles O17: the complement is the error pattern of all 32 bits, an even number of them. -/
theorem parityDetectsOddErrorPatterns : Obligations.ParityDetectsOddErrorPatterns := fun w e => by
  refine ⟨packFrame_fields_eq_iff w, evenParity_xor_eq_iff w e, ?_⟩
  rw [← BitVec.xor_allOnes, evenParity_xor_eq_iff]
  decide

end Sys2Proof.Machine
end

section
/-! SUPPORT. The line code by pairs (R87, R141, R146): the three results of a decode each by an `↔`, the capture of a
frame as the only one that decodes to it, and what a wrong sample or a wrong pair does to the pairs of a capture. -/

namespace Sys2Proof.Machine

/-! ### Pairs of samples (R11, R53, R87) -/

theorem capturePair_eq_bits (c : Capture) (k : Nat) :
    capturePair c k = (c.getLsbD (67 - 2 * k), c.getLsbD (66 - 2 * k)) := by
  rw [capturePair, sample, sample, Nat.sub_add_eq, Nat.sub_right_comm]

theorem pairBit_eq_some_iff (p : Bool × Bool) (b : Bool) : pairBit p = some b ↔ p = (b, !b) := by
  revert p b
  decide

theorem pairBit_eq_none_iff (p : Bool × Bool) : pairBit p = none ↔ p.1 = p.2 := by
  revert p
  decide

/-- The start and the stop pair are each (1,0) (R141 step 1). -/
def Framed (c : Capture) : Prop := capturePair c 0 = (true, false) ∧ capturePair c 33 = (true, false)

theorem framed_iff_bits (c : Capture) : Framed c ↔
    c.getLsbD 67 = true ∧ c.getLsbD 66 = false ∧ c.getLsbD 1 = true ∧ c.getLsbD 0 = false := by
  simp [Framed, capturePair_eq_bits, and_assoc]

/-! ### The three results of a decode (R141, R142) -/

theorem manchesterDecode_of_framed {c : Capture} (framed : Framed c) : manchesterDecode c = decodePairs c 32 :=
  manchesterDecode_framed framed.1 framed.2

theorem manchesterDecode_invalidFraming_iff (c : Capture) :
    manchesterDecode c = .error .invalidFraming ↔ ¬Framed c := by
  refine ⟨fun h framed => ?_, fun h => manchesterDecode_framing (not_and_or.mp h)⟩
  rw [manchesterDecode_of_framed framed] at h
  cases decodePairs_error h

theorem manchesterDecode_invalidEncoding_iff (c : Capture) :
    manchesterDecode c = .error .invalidEncoding ↔
      Framed c ∧ ∃ k, 1 ≤ k ∧ k ≤ 32 ∧ (capturePair c k).1 = (capturePair c k).2 := by
  by_cases framed : Framed c
  · rw [manchesterDecode_of_framed framed, decodePairs_error_iff]
    simp only [pairBit_eq_none_iff, framed, true_and]
    constructor
    · rintro ⟨j, hj, same⟩
      exact ⟨j + 1, by omega, by omega, same⟩
    · rintro ⟨k, hk, hk', same⟩
      obtain ⟨j, rfl⟩ := Nat.exists_eq_add_of_le' hk
      exact ⟨j, hk', same⟩
  · rw [(manchesterDecode_invalidFraming_iff c).2 framed]
    simp [framed]

theorem capturePair_of_decode {c : Capture} {w : Frame} (h : manchesterDecode c = .ok w) {k : Nat} (hk : 1 ≤ k)
    (hk' : k ≤ 32) : capturePair c k = (w.getLsbD (32 - k), !w.getLsbD (32 - k)) := by
  by_cases framed : Framed c
  · rw [manchesterDecode_of_framed framed, decodePairs_ok_iff c 32 le_rfl] at h
    obtain ⟨j, rfl⟩ := Nat.exists_eq_add_of_le' hk
    rw [← pairBit_eq_some_iff, h.1 j hk', Nat.sub_add_eq, Nat.sub_right_comm]
  · rw [(manchesterDecode_invalidFraming_iff c).2 framed] at h
    cases h

/-! ### The capture of a frame (R146, R147) -/

theorem capturePair_manchesterEncode_data (w : Frame) {k : Nat} (hk : 1 ≤ k) (hk' : k ≤ 32) :
    capturePair (manchesterEncode w) k = (w.getLsbD (32 - k), !w.getLsbD (32 - k)) := by
  rw [capturePair_manchesterEncode w k (by omega), if_neg (by omega)]

theorem framed_manchesterEncode (w : Frame) : Framed (manchesterEncode w) :=
  ⟨by simp [capturePair_manchesterEncode], by simp [capturePair_manchesterEncode]⟩

/-- The capture of a frame is the only one that decodes to it: every pair of such a capture is forced. -/
theorem manchesterDecode_eq_ok_iff (c : Capture) (w : Frame) :
    manchesterDecode c = .ok w ↔ c = manchesterEncode w := by
  refine ⟨fun h => capture_ext fun k hk => ?_, fun h => h ▸ manchesterDecode_manchesterEncode w⟩
  have framed : Framed c := by
    by_contra unframed
    cases ((manchesterDecode_invalidFraming_iff c).2 unframed).symm.trans h
  by_cases marker : k = 0 ∨ k = 33
  · rcases marker with rfl | rfl
    · exact framed.1.trans (framed_manchesterEncode w).1.symm
    · exact framed.2.trans (framed_manchesterEncode w).2.symm
  · rw [capturePair_of_decode h (by omega) (by omega), capturePair_manchesterEncode_data w (by omega) (by omega)]

/-- Both samples of a pair in the capture of a frame differ (R87). -/
theorem capturePair_manchesterEncode_differ (w : Frame) {k : Nat} (hk : k ≤ 33) :
    (capturePair (manchesterEncode w) k).2 = !(capturePair (manchesterEncode w) k).1 := by
  rw [capturePair_manchesterEncode w k hk]
  split_ifs <;> rfl

/-! ### Wrong samples (R148) -/

theorem getLsbD_xor_one_shiftLeft {w m n : Nat} (v : BitVec w) (hm : m < w) :
    (v ^^^ (1#w <<< m)).getLsbD n = (v.getLsbD n ^^ decide (m = n)) := by
  rw [BitVec.getLsbD_xor, ← BitVec.twoPow_eq, BitVec.getLsbD_twoPow, decide_eq_true hm, Bool.true_and]

/-- The pattern with sample `i` alone wrong. -/
theorem sample_xor_one {i j : Nat} (c : Capture) (hi : i < 68) (hj : j < 68) :
    sample (c ^^^ (1#68 <<< (67 - i))) j = (sample c j ^^ decide (j = i)) := by
  have place : (67 - i = 67 - j) ↔ j = i := by omega
  rw [sample, sample, getLsbD_xor_one_shiftLeft c (by omega), decide_eq_decide.2 place]

/-- Two adjacent bits are flipped one after the other. -/
theorem three_shiftLeft_eq_xor (n : Nat) : 3#68 <<< n = 1#68 <<< (n + 1) ^^^ 1#68 <<< n := by
  rw [Nat.add_comm, BitVec.shiftLeft_add, ← BitVec.shiftLeft_xor_distrib]
  rfl

/-- The pattern with both samples of pair `k` wrong leaves the other pairs. -/
theorem capturePair_xor_three {j k : Nat} (c : Capture) (hj : j ≤ 33) (hk : k ≤ 33) :
    capturePair (c ^^^ (3#68 <<< (66 - 2 * k))) j =
      if j = k then (!(capturePair c j).1, !(capturePair c j).2) else capturePair c j := by
  have first : 66 - 2 * k + 1 = 67 - 2 * k := by omega
  have second : 66 - 2 * k = 67 - (2 * k + 1) := by omega
  rw [three_shiftLeft_eq_xor, first, second, ← BitVec.xor_assoc]
  simp (disch := omega) only [capturePair, sample_xor_one]
  by_cases same : j = k
  · simp [same]
  · simp [same, show 2 * j ≠ 2 * k + 1 by omega, show 2 * j + 1 ≠ 2 * k by omega]

theorem capturePair_xor_one_of_ne {i j : Nat} (c : Capture) (hi : i < 68) (hj : j ≤ 33) (other : j ≠ i / 2) :
    capturePair (c ^^^ (1#68 <<< (67 - i))) j = capturePair c j := by
  rw [capturePair, sample_xor_one c hi (by omega), sample_xor_one c hi (by omega), decide_eq_false (by omega),
    decide_eq_false (by omega), Bool.xor_false, Bool.xor_false, capturePair]

/-- One wrong sample makes a pair of different samples one of equal samples. -/
theorem capturePair_xor_one_equal {i : Nat} (c : Capture) (hi : i < 68)
    (differ : (capturePair c (i / 2)).2 = !(capturePair c (i / 2)).1) :
    (capturePair (c ^^^ (1#68 <<< (67 - i))) (i / 2)).1 = (capturePair (c ^^^ (1#68 <<< (67 - i))) (i / 2)).2 := by
  simp only [capturePair] at differ ⊢
  rw [sample_xor_one c hi (by omega), sample_xor_one c hi (by omega), differ]
  rcases Nat.mod_two_eq_zero_or_one i with even | odd
  · rw [decide_eq_true (show 2 * (i / 2) = i by omega), decide_eq_false (show 2 * (i / 2) + 1 ≠ i by omega)]
    simp
  · rw [decide_eq_false (show 2 * (i / 2) ≠ i by omega), decide_eq_true (show 2 * (i / 2) + 1 = i by omega)]
    simp

theorem framed_xor_one_iff {i : Nat} {c : Capture} (framed : Framed c) (hi : i < 68) :
    Framed (c ^^^ (1#68 <<< (67 - i))) ↔ ¬(i = 0 ∨ i = 1 ∨ i = 66 ∨ i = 67) := by
  obtain ⟨start, stop⟩ := framed
  constructor
  · rintro ⟨start', stop'⟩ marker
    rcases (show i / 2 = 0 ∨ i / 2 = 33 by omega) with hk | hk
    · have equal := capturePair_xor_one_equal c hi (by rw [hk, start]; rfl)
      rw [hk, start'] at equal
      cases equal
    · have equal := capturePair_xor_one_equal c hi (by rw [hk, stop]; rfl)
      rw [hk, stop'] at equal
      cases equal
  · intro data
    exact ⟨(capturePair_xor_one_of_ne c hi (by omega) (by omega)).trans start,
      (capturePair_xor_one_of_ne c hi (by omega) (by omega)).trans stop⟩

theorem not_framed_xor_three {k : Nat} {c : Capture} (framed : Framed c) (marker : k = 0 ∨ k = 33) :
    ¬Framed (c ^^^ (3#68 <<< (66 - 2 * k))) := by
  rintro ⟨start, stop⟩
  rcases marker with rfl | rfl
  · rw [capturePair_xor_three c (by omega) (by omega), if_pos rfl, framed.1] at start
    cases start
  · rw [capturePair_xor_three c (by omega) (by omega), if_pos rfl, framed.2] at stop
    cases stop

/-- Both samples of data pair `k` wrong give the capture of the frame with bit `32 - k` flipped. -/
theorem manchesterEncode_xor_three (w : Frame) {k : Nat} (hk : 1 ≤ k) (hk' : k ≤ 32) :
    manchesterEncode w ^^^ (3#68 <<< (66 - 2 * k)) = manchesterEncode (w ^^^ (1#32 <<< (32 - k))) := by
  refine capture_ext fun j hj => ?_
  rw [capturePair_xor_three _ hj (by omega), capturePair_manchesterEncode w j hj,
    capturePair_manchesterEncode _ j hj, getLsbD_xor_one_shiftLeft w (by omega)]
  by_cases same : j = k
  · simp [same, show ¬(k = 0 ∨ k = 33) by omega]
  · by_cases marker : j = 0 ∨ j = 33
    · simp [same, marker]
    · simp [same, marker, show 32 - k ≠ 32 - j by omega]

theorem evenParity_xor_one (w : Frame) {m : Nat} (hm : m < 32) : evenParity (w ^^^ (1#32 <<< m)) = !evenParity w := by
  have changed : evenParity (w ^^^ (1#32 <<< m)) ≠ evenParity w := fun same => by
    have even := (evenParity_xor_eq_iff w _).1 same
    exact absurd (even.symm.trans (setBits_one_shiftLeft_odd hm)) (by decide)
  exact Bool.eq_not_of_ne changed

end Sys2Proof.Machine
end

section
/-! CERTIFICATE. ManchesterCodec: what `MDEC` (O18) and `MENC` (O19) reply, the round trip (O20) and the wrong samples a
decode detects (O21). -/

namespace Sys2Proof.Machine

/-- Settles O18: each of the three results of a decode, by the pairs of the capture. -/
theorem mdecDecodesOrNamesTheError : Obligations.MdecDecodesOrNamesTheError := fun c s => by
  simp only [← framed_iff_bits c]
  have equal_iff (k : Nat) : (capturePair c k).1 = (capturePair c k).2 ↔
      c.getLsbD (67 - 2 * k) = c.getLsbD (66 - 2 * k) := by rw [capturePair_eq_bits]
  simp only [ne_eq, ← equal_iff]
  refine ⟨rfl, fun unframed => ?_, fun framed invalid => ?_, fun framed valid => ?_⟩
  · exact exec_mdec_error s ((manchesterDecode_invalidFraming_iff c).2 unframed)
  · exact exec_mdec_error s ((manchesterDecode_invalidEncoding_iff c).2 ⟨framed, invalid⟩)
  · cases decoded : manchesterDecode c with
    | ok f =>
      refine ⟨f, exec_mdec_ok s decoded, fun k hk hk' => ?_⟩
      have pair := capturePair_of_decode decoded hk hk'
      rw [capturePair_eq_bits] at pair
      exact (congrArg Prod.fst pair).symm
    | error e =>
      rcases manchesterDecode_error decoded with rfl | rfl
      · exact absurd framed ((manchesterDecode_invalidFraming_iff c).1 decoded)
      · obtain ⟨-, k, hk, hk', equal⟩ := (manchesterDecode_invalidEncoding_iff c).1 decoded
        exact absurd equal (valid k hk hk')

/-- Settles O19: the capture of a frame has the marker pairs and the data pairs of R146. -/
theorem mencRepliesTheCapture : Obligations.MencRepliesTheCapture := fun f s => by
  obtain ⟨start, low, stop, last⟩ := (framed_iff_bits _).1 (framed_manchesterEncode f)
  refine ⟨rfl, manchesterEncode f, exec_menc s f, start, low, stop, last, fun k hk hk' => ?_⟩
  have pair := capturePair_manchesterEncode_data f hk hk'
  rw [capturePair_eq_bits] at pair
  exact Prod.mk.inj pair

/-- Settles O20: a capture decodes to a frame exactly where it is the frame's own. -/
theorem manchesterRoundTrip : Obligations.ManchesterRoundTrip := fun w c =>
  ⟨manchesterDecode_manchesterEncode w, (manchesterDecode_eq_ok_iff c w).1⟩

/-- A wrong sample of a marker pair is bad framing, and one of a data pair leaves a pair that is no bit. -/
theorem manchesterDecode_xor_one (w : Frame) {i : Nat} (hi : i < 68) :
    manchesterDecode (manchesterEncode w ^^^ (1#68 <<< (67 - i))) =
      .error (if i = 0 ∨ i = 1 ∨ i = 66 ∨ i = 67 then .invalidFraming else .invalidEncoding) := by
  have framed := framed_xor_one_iff (framed_manchesterEncode w) hi
  split_ifs with marker
  · exact (manchesterDecode_invalidFraming_iff _).2 fun h => framed.1 h marker
  · have equal := capturePair_xor_one_equal _ hi (capturePair_manchesterEncode_differ w (k := i / 2) (by omega))
    exact (manchesterDecode_invalidEncoding_iff _).2 ⟨framed.2 marker, i / 2, by omega, by omega, equal⟩

/-- Both samples of a marker pair wrong are bad framing. -/
theorem manchesterDecode_xor_three_marker (w : Frame) {k : Nat} (marker : k = 0 ∨ k = 33) :
    manchesterDecode (manchesterEncode w ^^^ (3#68 <<< (66 - 2 * k))) = .error .invalidFraming :=
  (manchesterDecode_invalidFraming_iff _).2 (not_framed_xor_three (framed_manchesterEncode w) marker)

/-- Settles O21: one wrong sample makes its pair invalid, and a wrong data pair is the capture of another frame. -/
theorem sampleErrorsAreDetectedByPair : Obligations.SampleErrorsAreDetectedByPair := fun w => by
  refine ⟨fun i hi => manchesterDecode_xor_one w hi, fun k hk hk' => ?_, fun j k hj hjk hk => ⟨?_, ?_⟩,
    manchesterDecode_xor_three_marker w (k := 0) (.inl rfl), ?_⟩
  · rw [manchesterEncode_xor_three w hk hk', manchesterDecode_manchesterEncode]
  · rw [manchesterEncode_xor_three w hj (by omega), manchesterEncode_xor_three _ (by omega) hk,
      manchesterDecode_manchesterEncode]
  · rw [evenParity_xor_one _ (by omega), evenParity_xor_one w (by omega), Bool.not_not]
  · simpa using manchesterDecode_xor_three_marker w (k := 33) (.inr rfl)

end Sys2Proof.Machine
end

section
/-! SUPPORT. The numbers behind the f8.8 conversions (R161 to R168): `as_s16` as a number, truncation toward zero, the
parts of a binary32 number (R165), and both conversions by the rational value of their operand. -/

namespace Sys2Proof.Machine

/-! ### 16-bit values as signed numbers (R161) -/

theorem asS16_eq_signed16 (v : DataValue) : asS16 v = signed16 v := by
  rw [asS16, signed16, BitVec.toInt_eq_toNat_cond]
  split_ifs <;> omega

theorem signed16_range (v : DataValue) : -32768 ≤ signed16 v ∧ signed16 v ≤ 32767 := by
  have bound := v.isLt
  rw [signed16]
  split_ifs <;> omega

/-- `as_s16` brings back every number that it has as a value. -/
theorem signed16_asU16 {i : Int} (low : -32768 ≤ i) (high : i ≤ 32767) : signed16 (asU16 i) = i := by
  rw [← asS16_eq_signed16, asS16, asU16]
  exact BitVec.toInt_ofInt_eq_self (by decide) low (by omega)

theorem asU16_signed16 (v : DataValue) : asU16 (signed16 v) = v := by
  rw [← asS16_eq_signed16, asS16, asU16, BitVec.ofInt_toInt]

/-! ### Truncation toward zero (R164, R167) -/

theorem towardZero_of_nonneg {y : ℚ} (h : 0 ≤ y) : towardZero y = ⌊y⌋ := if_pos h

theorem towardZero_of_nonpos {y : ℚ} (h : y ≤ 0) : towardZero y = ⌈y⌉ := by
  rcases h.lt_or_eq with negative | rfl
  · exact if_neg negative.not_ge
  · simp [towardZero]

theorem towardZero_neg (y : ℚ) : towardZero (-y) = -towardZero y := by
  rcases le_total 0 y with h | h
  · rw [towardZero_of_nonneg h, towardZero_of_nonpos (neg_nonpos.2 h), Int.ceil_neg]
  · rw [towardZero_of_nonpos h, towardZero_of_nonneg (neg_nonneg.2 h), Int.floor_neg]

@[simp] theorem towardZero_intCast (n : ℤ) : towardZero n = n := by simp [towardZero]

/-- A bound that is a positive integer holds of a number exactly where it holds of its truncation. -/
theorem towardZero_lt_iff {n : ℤ} (hn : 0 < n) (y : ℚ) : towardZero y < n ↔ y < n := by
  rcases le_total 0 y with h | h
  · rw [towardZero_of_nonneg h, Int.floor_lt]
  · have below : towardZero y ≤ 0 := (towardZero_of_nonpos h).trans_le (Int.ceil_nonpos.2 h)
    exact iff_of_true (below.trans_lt hn) (h.trans_lt (Int.cast_pos.2 hn))

theorem neg_lt_towardZero_iff {n : ℤ} (hn : 0 < n) (y : ℚ) : -n < towardZero y ↔ -(n : ℚ) < y := by
  rw [neg_lt, ← towardZero_neg, towardZero_lt_iff hn, neg_lt]

/-- The numbers with a specified f8.8 result are those that truncate to a 16-bit signed number (R164). -/
theorem towardZero_range_iff (y : ℚ) :
    (-32768 ≤ towardZero y ∧ towardZero y ≤ 32767) ↔ (-32769 < y ∧ y < 32768) := by
  have low : -32769 < towardZero y ↔ -32769 < y := by
    exact_mod_cast neg_lt_towardZero_iff (n := 32769) (by decide) y
  have high : towardZero y < 32768 ↔ y < 32768 := by
    exact_mod_cast towardZero_lt_iff (n := 32768) (by decide) y
  rw [← low, ← high]
  omega

/-- Truncation to a multiple of 1/256 changes nothing exactly where there was nothing to drop (R166). -/
theorem towardZero_div_eq_iff (q : ℚ) : (towardZero (q * 256) : ℚ) / 256 = q ↔ ∃ n : ℤ, q * 256 = n := by
  rw [div_eq_iff (by norm_num)]
  constructor
  · exact fun whole => ⟨_, whole.symm⟩
  · rintro ⟨n, hn⟩
    rw [hn, towardZero_intCast]

/-! ### The parts of a binary32 number (R165) -/

section Parts
variable (sign : Bool) {exponent fraction : Nat}

theorem toNat_f32OfParts (he : exponent < 256) (hf : fraction < 2 ^ 23) :
    (f32OfParts sign exponent fraction).toNat = (sign.toNat * 256 + exponent) * 2 ^ 23 + fraction := by
  rw [f32OfParts, toNat_append_eq_add, toNat_append_eq_add, BitVec.toNat_ofBool, BitVec.toNat_ofNat,
    BitVec.toNat_ofNat, Nat.mod_eq_of_lt (show exponent < 2 ^ 8 from he), Nat.mod_eq_of_lt hf]
  rfl

theorem f32Sign_f32OfParts (exponent fraction : Nat) : f32Sign (f32OfParts sign exponent fraction) = sign := by
  rw [f32Sign, f32OfParts, BitVec.getLsbD_append, BitVec.getLsbD_append]
  simp

theorem f32Exponent_f32OfParts (he : exponent < 256) (hf : fraction < 2 ^ 23) :
    f32Exponent (f32OfParts sign exponent fraction) = exponent := by
  rw [f32Exponent, BitVec.extractLsb'_toNat, toNat_f32OfParts sign he hf, Nat.shiftRight_eq_div_pow]
  omega

theorem f32Fraction_f32OfParts (he : exponent < 256) (hf : fraction < 2 ^ 23) :
    f32Fraction (f32OfParts sign exponent fraction) = fraction := by
  rw [f32Fraction, BitVec.extractLsb'_toNat, toNat_f32OfParts sign he hf, Nat.shiftRight_zero]
  omega

/-- A normal number: the hidden bit is 1. -/
theorem f32Value_f32OfParts (normal : 0 < exponent) (finite : exponent < 255) (hf : fraction < 2 ^ 23) :
    f32Value (f32OfParts sign exponent fraction) =
      some ((if sign then -1 else 1) * (2 ^ 23 + fraction : Nat) * (2 : ℚ) ^ ((exponent : ℤ) - 150)) := by
  have he : exponent < 256 := by omega
  simp only [f32Value, f32Finite, f32Significand, f32Scale, f32Sign_f32OfParts, f32Exponent_f32OfParts sign he hf,
    f32Fraction_f32OfParts sign he hf, bne_iff_ne, ne_eq, finite.ne, normal.ne', not_false_eq_true, if_true, if_false]

end Parts

theorem f32Value_eq_none_iff (x : F32) : f32Value x = none ↔ f32Finite x = false := by simp [f32Value]

theorem f32Value_eq_some_iff (x : F32) (q : ℚ) :
    f32Value x = some q ↔ f32Finite x = true ∧
      (if f32Sign x then -1 else 1) * f32Significand x * (2 : ℚ) ^ ((f32Scale x : ℤ) - 150) = q := by
  simp [f32Value]

/-- Multiplying a finite number by 256 adds 8 to its exponent. -/
theorem mul_256_of_f32Value {x : F32} {q : ℚ} (h : f32Value x = some q) :
    q * 256 = (if f32Sign x then -1 else 1) * (f32Significand x * (2 : ℚ) ^ ((f32Scale x : ℤ) - 142)) := by
  obtain ⟨-, rfl⟩ := (f32Value_eq_some_iff x q).1 h
  have scaled : (2 : ℚ) ^ ((f32Scale x : ℤ) - 142) = 2 ^ ((f32Scale x : ℤ) - 150) * 256 := by
    rw [show (f32Scale x : ℤ) - 142 = (f32Scale x : ℤ) - 150 + 8 by ring, zpow_add₀ two_ne_zero]
    norm_num
  rw [scaled]
  ring

/-! ### From f8.8 to binary32 (R163) -/

/-- The significand of a number below 2^24, moved up until its highest bit is the hidden bit. -/
theorem normalized_significand_range {m : Nat} (positive : 0 < m) (small : m < 2 ^ 24) :
    2 ^ 23 ≤ m * 2 ^ (23 - Nat.log2 m) ∧ m * 2 ^ (23 - Nat.log2 m) < 2 ^ 24 := by
  have low : 2 ^ Nat.log2 m ≤ m := Nat.log2_self_le positive.ne'
  have high : m < 2 ^ (Nat.log2 m + 1) := Nat.lt_log2_self
  have bound : Nat.log2 m < 24 := (Nat.log2_lt positive.ne').2 small
  constructor
  · calc 2 ^ 23 = 2 ^ Nat.log2 m * 2 ^ (23 - Nat.log2 m) := by rw [← pow_add]; congr 1; omega
      _ ≤ _ := Nat.mul_le_mul_right _ low
  · calc m * 2 ^ (23 - Nat.log2 m) < 2 ^ (Nat.log2 m + 1) * 2 ^ (23 - Nat.log2 m) :=
        Nat.mul_lt_mul_of_pos_right high (Nat.two_pow_pos _)
      _ = 2 ^ 24 := by rw [← pow_add]; congr 1; omega

/-- Every integer of at most 24 bits, over 256, is a binary32 number exactly. -/
theorem f32Value_f32OfInt256 {i : Int} (small : i.natAbs < 2 ^ 24) :
    f32Value (f32OfInt256 i) = some ((i : ℚ) / 256) := by
  rcases Nat.eq_zero_or_pos i.natAbs with zero | positive
  · obtain rfl : i = 0 := Int.natAbs_eq_zero.1 zero
    decide +kernel
  have range := normalized_significand_range positive small
  have bound : Nat.log2 i.natAbs < 24 := (Nat.log2_lt positive.ne').2 small
  have signed : (if decide (i < 0) then -1 else 1) * (i.natAbs : ℚ) = i := by
    rcases lt_or_ge i 0 with negative | nonneg
    · rw [if_pos (decide_eq_true negative), Nat.cast_natAbs, abs_of_neg negative]
      push_cast
      ring
    · rw [if_neg (by simpa using nonneg), Nat.cast_natAbs, abs_of_nonneg nonneg, one_mul]
  have scaled : (2 : ℚ) ^ (23 - Nat.log2 i.natAbs) * 2 ^ (((Nat.log2 i.natAbs + 119 : Nat) : ℤ) - 150) = 1 / 256 := by
    rw [← zpow_natCast, ← zpow_add₀ two_ne_zero,
      show ((23 - Nat.log2 i.natAbs : Nat) : ℤ) + (((Nat.log2 i.natAbs + 119 : Nat) : ℤ) - 150) = -8 by omega]
    norm_num
  rw [f32OfInt256, if_neg positive.ne', f32Value_f32OfParts _ (by omega) (by omega) (by omega),
    Nat.add_sub_of_le range.1, Nat.cast_mul, Nat.cast_pow, Nat.cast_ofNat, ← mul_assoc, signed, mul_assoc, scaled,
    mul_one_div]

/-- `F88TOF` is exact (R162, R163). -/
theorem f32Value_f88ToFloat (v : DataValue) : f32Value (f88ToFloat v) = some ((signed16 v : ℚ) / 256) := by
  have range := signed16_range v
  rw [f88ToFloat, asS16_eq_signed16, f32Value_f32OfInt256 (by omega)]

/-! ### From binary32 to f8.8 (R164, R168) -/

/-- Shifting the significand right drops what is below 1. -/
theorem f32Times256Magnitude_eq_floor (x : F32) :
    (f32Times256Magnitude x : ℤ) = ⌊(f32Significand x : ℚ) * 2 ^ ((f32Scale x : ℤ) - 142)⌋ := by
  rw [f32Times256Magnitude]
  split_ifs with large
  · have shift : (f32Scale x : ℤ) - 142 = (f32Scale x - 142 : Nat) := by omega
    rw [shift, zpow_natCast]
    exact_mod_cast (Int.floor_natCast _).symm
  · have shift : (f32Scale x : ℤ) - 142 = -((142 - f32Scale x : Nat) : ℤ) := by omega
    rw [shift, zpow_neg, zpow_natCast, ← div_eq_mul_inv]
    exact_mod_cast (Rat.floor_natCast_div_natCast (f32Significand x) (2 ^ (142 - f32Scale x))).symm

/-- The model's truncation of the bits is truncation of the value toward zero (R164, R167). -/
theorem f32Times256Trunc_eq_towardZero {x : F32} {q : ℚ} (h : f32Value x = some q) :
    f32Times256Trunc x = towardZero (q * 256) := by
  have magnitude : (f32Times256Magnitude x : ℤ) =
      towardZero (f32Significand x * 2 ^ ((f32Scale x : ℤ) - 142)) := by
    rw [towardZero_of_nonneg (by positivity), f32Times256Magnitude_eq_floor]
  rw [mul_256_of_f32Value h, f32Times256Trunc, magnitude]
  cases f32Sign x
  · simp
  · simp [towardZero_neg]

theorem f88FromFloat_of_value {x : F32} {q : ℚ} (h : f32Value x = some q) :
    f88FromFloat x =
      if -32769 < q * 256 ∧ q * 256 < 32768 then some (asU16 (towardZero (q * 256))) else none := by
  obtain ⟨finite, -⟩ := (f32Value_eq_some_iff x q).1 h
  simp only [f88FromFloat, f32Times256Trunc_eq_towardZero h, finite, true_and, towardZero_range_iff]

/-- A result is specified in the range of R164; there it is the truncation toward zero, which `as_s16` brings back. -/
theorem f88FromFloat_specified {x : F32} {q : ℚ} (h : f32Value x = some q) (low : -32769 < q * 256)
    (high : q * 256 < 32768) : ∃ v, f88FromFloat x = some v ∧ signed16 v = towardZero (q * 256) := by
  obtain ⟨low', high'⟩ := (towardZero_range_iff _).2 ⟨low, high⟩
  exact ⟨_, (f88FromFloat_of_value h).trans (if_pos ⟨low, high⟩), signed16_asU16 low' high'⟩

/-- NaN, the infinities and the numbers outside the range have no specified result (R168). -/
theorem f88FromFloat_unspecified {x : F32} (h : ∀ q, f32Value x = some q → q * 256 ≤ -32769 ∨ 32768 ≤ q * 256) :
    f88FromFloat x = none := by
  cases value : f32Value x with
  | none => simp [f88FromFloat, (f32Value_eq_none_iff x).1 value]
  | some q =>
    have outside : ¬(-32769 < q * 256 ∧ q * 256 < 32768) := by
      rw [not_and_or, not_lt, not_lt]
      exact h q value
    rw [f88FromFloat_of_value value, if_neg outside]

/-- The first half of R166: an f8.8 value over 256 is inside the range, and nothing is dropped. -/
theorem f88FromFloat_f88ToFloat (v : DataValue) : f88FromFloat (f88ToFloat v) = some v := by
  have whole : (signed16 v : ℚ) / 256 * 256 = (signed16 v : ℤ) := div_mul_cancel₀ _ (by norm_num)
  have inside := (towardZero_range_iff (signed16 v : ℤ)).1 (by simpa using signed16_range v)
  rw [f88FromFloat_of_value (f32Value_f88ToFloat v), whole, if_pos inside, towardZero_intCast, asU16_signed16]

/-! ### The low 16 bits of a frame (R170) -/

theorem toNat_frameDataValue (f : Frame) : (frameDataValue f).toNat = f.toNat % 65536 := by
  rw [frameDataValue, BitVec.extractLsb'_toNat, Nat.shiftRight_zero]

theorem frameDataValue_eq_ofNat (f : Frame) : frameDataValue f = BitVec.ofNat 16 (f.toNat % 65536) :=
  BitVec.eq_of_toNat_eq (by rw [toNat_frameDataValue, BitVec.toNat_ofNat, Nat.mod_mod])

end Sys2Proof.Machine
end

section
/-! CERTIFICATE. DataValueCodec, the numeric kinds: what `F88TOF` (O22), `F88FROMF` (O23, O24) and the getters (O26)
reply, and the round trip of f8.8 (O25). -/

namespace Sys2Proof.Machine

/-- Settles O22: the reply is the number of `f32Value_f88ToFloat`; 0 gives the word 0. -/
theorem f88tofIsExact : Obligations.F88tofIsExact := fun v s => by
  refine ⟨rfl, f88ToFloat v, exec_f88tof s v, f32Value_f88ToFloat v, ?_⟩
  rintro rfl
  rfl

/-- Settles O23: in the specified range the model answers the truncation toward zero. -/
theorem f88fromfTruncatesTowardZero : Obligations.F88fromfTruncatesTowardZero := fun _ _ s value low high => by
  obtain ⟨v, result, truncated⟩ := f88FromFloat_specified value low high
  exact ⟨rfl, v, exec_f88fromf_some s result, truncated⟩

/-- Settles O24: outside the specified range the reply is a free value, and it is drawn. -/
theorem f88fromfUnspecifiedStillCompletes : Obligations.F88fromfUnspecifiedStillCompletes := fun _ s outside =>
  ⟨_, exec_f88fromf_none s (f88FromFloat_unspecified outside)⟩

/-- Settles O25: there and back over the exact values of both conversions. -/
theorem f88RoundTrip : Obligations.F88RoundTrip := by
  refine ⟨f88FromFloat_f88ToFloat, fun _ q value low high => ?_⟩
  obtain ⟨v, result, truncated⟩ := f88FromFloat_specified value low high
  have back : f32Value (f88ToFloat v) = some ((towardZero (q * 256) : ℚ) / 256) := by
    rw [f32Value_f88ToFloat, truncated]
  refine ⟨v, result, back, ?_⟩
  rw [back, Option.some.injEq]
  exact towardZero_div_eq_iff q

/-- Settles O26: each getter is a conversion of the data value, which is the low 16 bits. -/
theorem gettersReadTheLowSixteenBits : Obligations.GettersReadTheLowSixteenBits := fun f s => by
  refine ⟨rfl, rfl, rfl, ⟨getU16 f, exec_getu16 s f, toNat_frameDataValue f⟩, ⟨getS16 f, exec_gets16 s f, ?_⟩,
    getF88 f, exec_getf88 s f, ?_⟩
  · rw [getS16, asS16_eq_signed16, signed16, toNat_frameDataValue]
  · rw [← frameDataValue_eq_ofNat]
    exact exec_f88tof s _

end Sys2Proof.Machine
end

section
/-! SUPPORT. The bytes of a data value (R9) and the byte of a list of flags: what each bit is, which number it is, and
which bits of a byte it keeps; and each record's value as its two bytes (R93, R94, R96, R98). -/

namespace Sys2Proof.Machine

/-! ### The two bytes of a data value (R9) -/

theorem toNat_highByte (v : DataValue) : (highByte v).toNat = v.toNat / 256 := by
  rw [highByte, BitVec.extractLsb'_toNat, Nat.shiftRight_eq_div_pow]
  omega

theorem toNat_lowByte (v : DataValue) : (lowByte v).toNat = v.toNat % 256 := by
  rw [lowByte, BitVec.extractLsb'_toNat, Nat.shiftRight_zero]

@[simp] theorem highByte_append (hb lb : Byte) : highByte (hb ++ lb) = hb := BitVec.extractLsb'_append_eq_left

@[simp] theorem lowByte_append (hb lb : Byte) : lowByte (hb ++ lb) = lb := BitVec.extractLsb'_append_eq_right

@[simp] theorem highByte_append_lowByte (v : DataValue) : highByte v ++ lowByte v = v :=
  BitVec.eq_of_toNat_eq (by rw [toNat_append_eq_add, toNat_highByte, toNat_lowByte]; omega)

@[simp] theorem getElem_highByte (v : DataValue) {i : Nat} (hi : i < 8) : (highByte v)[i] = v[8 + i] := by
  simp [highByte, BitVec.getLsbD_eq_getElem (show 8 + i < 16 by omega)]

@[simp] theorem getElem_lowByte (v : DataValue) {i : Nat} (hi : i < 8) : (lowByte v)[i] = v[i] := by
  simp [lowByte, BitVec.getLsbD_eq_getElem (show i < 16 by omega)]

/-- A mask acts on each byte by itself. -/
theorem and_append_bytes (v : DataValue) (h l : Byte) : v &&& (h ++ l) = (highByte v &&& h) ++ (lowByte v &&& l) := by
  rw [← BitVec.and_append, highByte_append_lowByte]

/-- The mask of Fault and Time (R205) drops the two highest bits of the low byte. -/
theorem and_low_six_bits (v : DataValue) : v &&& 0xFF3F#16 = highByte v ++ (lowByte v &&& 0x3F#8) :=
  (and_append_bytes v 0xFF#8 0x3F#8).trans (congrArg (· ++ _) BitVec.and_allOnes)

/-! ### The byte of a list of flags -/

/-- The byte whose bit `i` is flag `i`, and 0 above the last flag (R205). -/
def flagByte (flags : List Bool) : Byte := (BitVec.ofBoolListLE flags).setWidth 8

@[simp] theorem getElem_flagByte (flags : List Bool) {i : Nat} (hi : i < 8) :
    (flagByte flags)[i] = flags.getD i false := by
  simp [flagByte]

/-- The flags are the binary digits of the number. -/
theorem toNat_ofBoolListLE (flags : List Bool) :
    (BitVec.ofBoolListLE flags).toNat = Nat.ofDigits 2 (flags.map Bool.toNat) := by
  induction flags with
  | nil => rfl
  | cons b bs ih =>
    rw [BitVec.ofBoolListLE, BitVec.toNat_concat, ih, List.map_cons, Nat.ofDigits_cons, Nat.mul_comm, Nat.add_comm]

theorem toNat_flagByte {flags : List Bool} (short : flags.length ≤ 8) :
    (flagByte flags).toNat = Nat.ofDigits 2 (flags.map Bool.toNat) := by
  rw [flagByte, BitVec.toNat_setWidth_of_le short, toNat_ofBoolListLE]

/-- The flags read from the lowest `n` bits of a byte keep these bits. -/
theorem flagByte_low_bits (b : Byte) (n : Nat) :
    flagByte ((List.range n).map b.getLsbD) = b &&& BitVec.ofNat 8 (2 ^ n - 1) := by
  refine BitVec.eq_of_getLsbD_eq fun i hi => ?_
  rw [BitVec.getLsbD_eq_getElem hi, getElem_flagByte, BitVec.getLsbD_and, BitVec.getLsbD_ofNat,
    Nat.testBit_two_pow_sub_one]
  by_cases low : i < n <;> simp [low, hi]

/-! ### Byte pairs and Date (R99) -/

theorem decodeU8U8_encodeU8U8 (hb lb : Byte) : decodeU8U8 (encodeU8U8 hb lb) = (hb, lb) := by
  rw [decodeU8U8, encodeU8U8, highByte_append, lowByte_append]

theorem decodeDate_encodeDate (r : CalendarDate) : decodeDate (encodeDate r) = r := by
  rw [decodeDate, encodeDate, highByte_append, lowByte_append]

/-! ### Status (R93) -/

theorem toNat_encodeStatus (r : Status) : (encodeStatus r).toNat =
    r.fault.toNat + 2 * r.chMode.toNat + 4 * r.dhwMode.toNat + 8 * r.flame.toNat + 16 * r.cooling.toNat
      + 32 * r.ch2Mode.toNat + 64 * r.diagnostic.toNat + 256 * r.chEnable.toNat + 512 * r.dhwEnable.toNat
      + 1024 * r.coolingEnable.toNat + 2048 * r.otcActive.toNat + 4096 * r.ch2Enable.toNat := by
  simp only [encodeStatus, toNat_append_eq_add, BitVec.toNat_ofBool, BitVec.toNat_ofNat]
  omega

/-- The master flags are the high byte, the slave flags the low byte. -/
theorem encodeStatus_eq_append (r : Status) : encodeStatus r =
    flagByte [r.chEnable, r.dhwEnable, r.coolingEnable, r.otcActive, r.ch2Enable] ++
      flagByte [r.fault, r.chMode, r.dhwMode, r.flame, r.cooling, r.ch2Mode, r.diagnostic] := by
  apply BitVec.eq_of_toNat_eq
  rw [toNat_encodeStatus, toNat_append_eq_add, toNat_flagByte (by simp), toNat_flagByte (by simp)]
  simp only [List.map_cons, List.map_nil, Nat.ofDigits_cons, Nat.ofDigits_nil]
  omega

/-- Each flag is read from the byte that its encoder puts it in. -/
theorem decodeStatus_eq_bytes (v : DataValue) : decodeStatus v =
    { chEnable := (highByte v).getLsbD 0, dhwEnable := (highByte v).getLsbD 1, coolingEnable := (highByte v).getLsbD 2,
      otcActive := (highByte v).getLsbD 3, ch2Enable := (highByte v).getLsbD 4, fault := (lowByte v).getLsbD 0,
      chMode := (lowByte v).getLsbD 1, dhwMode := (lowByte v).getLsbD 2, flame := (lowByte v).getLsbD 3,
      cooling := (lowByte v).getLsbD 4, ch2Mode := (lowByte v).getLsbD 5, diagnostic := (lowByte v).getLsbD 6 } := by
  simp [decodeStatus]

theorem decodeStatus_encodeStatus (r : Status) : decodeStatus (encodeStatus r) = r := by
  rw [encodeStatus_eq_append, decodeStatus_eq_bytes, highByte_append, lowByte_append]
  simp

theorem encodeStatus_decodeStatus (v : DataValue) : encodeStatus (decodeStatus v) = v &&& 0x1F7F#16 := by
  rw [decodeStatus_eq_bytes, encodeStatus_eq_append]
  have high := flagByte_low_bits (highByte v) 5
  have low := flagByte_low_bits (lowByte v) 7
  exact (congrArg₂ (· ++ ·) high low).trans (and_append_bytes v 0x1F#8 0x7F#8).symm

/-! ### Config (R94) and Fault (R96) -/

theorem toNat_flagByte_six (a b c d e f : Bool) : (flagByte [a, b, c, d, e, f]).toNat =
    a.toNat + 2 * b.toNat + 4 * c.toNat + 8 * d.toNat + 16 * e.toNat + 32 * f.toNat := by
  rw [toNat_flagByte (by simp)]
  simp only [List.map_cons, List.map_nil, Nat.ofDigits_cons, Nat.ofDigits_nil]
  omega

/-- The flag bytes of Config and of Fault are written alike. -/
theorem append_six_flags_eq_flagByte (a b c d e f : Bool) :
    0#2 ++ BitVec.ofBool f ++ BitVec.ofBool e ++ BitVec.ofBool d ++ BitVec.ofBool c ++ BitVec.ofBool b
      ++ BitVec.ofBool a = flagByte [a, b, c, d, e, f] := by
  apply BitVec.eq_of_toNat_eq
  rw [toNat_flagByte_six]
  simp only [toNat_append_eq_add, BitVec.toNat_ofBool, BitVec.toNat_ofNat]
  omega

theorem encodeConfig_eq_append (r : ConfigFlags) : encodeConfig r =
    flagByte [r.dhwPresent, r.controlType, r.coolingConfig, r.dhwConfig, r.masterPumpControl, r.ch2Present] ++ 0#8 :=
  congrArg (· ++ 0#8) (append_six_flags_eq_flagByte ..)

theorem toNat_encodeConfig (r : ConfigFlags) : (encodeConfig r).toNat =
    256 * r.dhwPresent.toNat + 512 * r.controlType.toNat + 1024 * r.coolingConfig.toNat + 2048 * r.dhwConfig.toNat
      + 4096 * r.masterPumpControl.toNat + 8192 * r.ch2Present.toNat := by
  rw [encodeConfig_eq_append, toNat_append_eq_add, toNat_flagByte_six, BitVec.toNat_ofNat]
  omega

/-- The flags are in the high byte (decision D14). -/
theorem decodeMasterConfig_eq (v : DataValue) : decodeMasterConfig v = configOfByte (highByte v) := rfl

theorem decodeMasterConfig_encodeConfig (r : ConfigFlags) : decodeMasterConfig (encodeConfig r) = r := by
  rw [encodeConfig_eq_append, decodeMasterConfig_eq, highByte_append]
  simp [configOfByte]

theorem encodeConfig_decodeMasterConfig (v : DataValue) : encodeConfig (decodeMasterConfig v) = v &&& 0x3F00#16 := by
  rw [decodeMasterConfig_eq, encodeConfig_eq_append]
  have high := flagByte_low_bits (highByte v) 6
  exact (congrArg₂ (· ++ ·) high BitVec.and_zero.symm).trans (and_append_bytes v 0x3F#8 0#8).symm

theorem encodeFault_eq_append (r : FaultFlags) : encodeFault r =
    r.oemFaultCode ++ flagByte [r.serviceRequest, r.lockoutReset, r.lowWaterPressure, r.gasFlameFault,
      r.airPressureFault, r.waterOvertemp] :=
  congrArg (r.oemFaultCode ++ ·) (append_six_flags_eq_flagByte ..)

theorem toNat_encodeFault (r : FaultFlags) : (encodeFault r).toNat =
    256 * r.oemFaultCode.toNat + r.serviceRequest.toNat + 2 * r.lockoutReset.toNat + 4 * r.lowWaterPressure.toNat
      + 8 * r.gasFlameFault.toNat + 16 * r.airPressureFault.toNat + 32 * r.waterOvertemp.toNat := by
  rw [encodeFault_eq_append, toNat_append_eq_add, toNat_flagByte_six]
  omega

/-- The code is the high byte and the flags are the low byte (U9). -/
theorem decodeFault_eq (v : DataValue) : decodeFault v = faultOfBytes (highByte v) (lowByte v) := rfl

theorem decodeFault_encodeFault (r : FaultFlags) : decodeFault (encodeFault r) = r := by
  rw [encodeFault_eq_append, decodeFault_eq, highByte_append, lowByte_append]
  simp [faultOfBytes]

theorem encodeFault_decodeFault (v : DataValue) : encodeFault (decodeFault v) = v &&& 0xFF3F#16 := by
  rw [decodeFault_eq, encodeFault_eq_append, and_low_six_bits]
  exact congrArg (highByte v ++ ·) (flagByte_low_bits (lowByte v) 6)

/-! ### Time (R98) -/

theorem toNat_decodeTime_dayOfWeek (v : DataValue) : (decodeTime v).dayOfWeek.toNat = v.toNat / 8192 := by
  rw [decodeTime, BitVec.extractLsb'_toNat, Nat.shiftRight_eq_div_pow]
  omega

theorem toNat_decodeTime_hour (v : DataValue) : (decodeTime v).hour.toNat = v.toNat / 256 % 32 := by
  rw [decodeTime, BitVec.extractLsb'_toNat, Nat.shiftRight_eq_div_pow]

theorem toNat_decodeTime_minute (v : DataValue) : (decodeTime v).minute.toNat = v.toNat % 64 := by
  rw [decodeTime, BitVec.extractLsb'_toNat, Nat.shiftRight_zero]

theorem toNat_encodeTime (r : TimeOfDay) :
    (encodeTime r).toNat = 8192 * r.dayOfWeek.toNat + 256 * r.hour.toNat + r.minute.toNat := by
  simp only [encodeTime, toNat_append_eq_add, BitVec.toNat_ofNat]
  omega

theorem decodeTime_encodeTime (r : TimeOfDay) : decodeTime (encodeTime r) = r := by
  have value := toNat_encodeTime r
  have day : (decodeTime (encodeTime r)).dayOfWeek = r.dayOfWeek :=
    BitVec.eq_of_toNat_eq (by rw [toNat_decodeTime_dayOfWeek]; omega)
  have hour : (decodeTime (encodeTime r)).hour = r.hour :=
    BitVec.eq_of_toNat_eq (by rw [toNat_decodeTime_hour]; omega)
  have minute : (decodeTime (encodeTime r)).minute = r.minute :=
    BitVec.eq_of_toNat_eq (by rw [toNat_decodeTime_minute]; omega)
  exact congr (congrArg₂ TimeOfDay.mk day hour) minute

/-- Day and hour are the whole high byte, the minute the lowest 6 bits of the low byte. -/
theorem encodeTime_decodeTime (v : DataValue) : encodeTime (decodeTime v) = v &&& 0xFF3F#16 := by
  have low : (lowByte v &&& 0x3F#8).toNat = v.toNat % 64 := by
    rw [BitVec.toNat_and, toNat_lowByte]
    exact (Nat.and_two_pow_sub_one_eq_mod _ 6).trans (by omega)
  apply BitVec.eq_of_toNat_eq
  rw [and_low_six_bits, toNat_append_eq_add, low, toNat_highByte, toNat_encodeTime, toNat_decodeTime_dayOfWeek,
    toNat_decodeTime_hour, toNat_decodeTime_minute]
  omega

end Sys2Proof.Machine
end

section
/-! CERTIFICATE. DataValueCodec, the record kinds: what the byte pairs and dates (O27), the record decoders (O28) and the
record encoders (O29) reply, the round trip (O30) and the bits it drops (O31). -/

namespace Sys2Proof.Machine

/-- Settles O27: the bytes as numbers; both pairs of commands split and join alike. -/
theorem bytePairsAndDates : Obligations.BytePairsAndDates := fun v hb lb s =>
  ⟨rfl, rfl, rfl, rfl, ⟨highByte v, lowByte v, exec_decu8u8 s v, exec_decdate s v, toNat_highByte v, toNat_lowByte v⟩,
    encodeU8U8 hb lb, exec_encu8u8 s hb lb, exec_encdate s ⟨hb, lb⟩, toNat_append_eq_add hb lb⟩

/-- Settles O28: the config flags are bits of the high byte, the numbers are parts of the value. -/
theorem recordDecodersReadTheirBits : Obligations.RecordDecodersReadTheirBits := fun v s => by
  refine ⟨rfl, rfl, rfl, rfl, rfl, rfl, exec_decstatus s v,
    ⟨decodeMasterConfig v, ?_, exec_decmcfg s v, exec_decscfg s v⟩,
    ⟨highByte v, toNat_highByte v, ?_⟩,
    ⟨highByte v, lowByte v, toNat_highByte v, toNat_lowByte v, exec_decrp s v⟩,
    _, _, _, toNat_decodeTime_dayOfWeek v, toNat_decodeTime_hour v, toNat_decodeTime_minute v, exec_dectime s v⟩
  · simp [decodeMasterConfig_eq, configOfByte]
  · rw [exec_decfault, decodeFault_eq]
    simp [faultOfBytes, replyOk, State.pushReply]

/-- Settles O29: the value of each record as a number. -/
theorem recordEncodersPlaceTheirBits : Obligations.RecordEncodersPlaceTheirBits := fun r c fa tm s =>
  ⟨rfl, rfl, rfl, rfl, ⟨encodeStatus r, exec_encstatus s r, toNat_encodeStatus r⟩,
    ⟨encodeConfig c, exec_enccfg s c, toNat_encodeConfig c⟩, ⟨encodeFault fa, exec_encfault s fa, toNat_encodeFault fa⟩,
    encodeTime tm, exec_enctime s tm, toNat_encodeTime tm⟩

/-- Settles O30, record by record; the two config decoders are one function (R195). -/
theorem recordRoundTrip : Obligations.RecordRoundTrip :=
  ⟨decodeStatus_encodeStatus, fun r => ⟨decodeMasterConfig_encodeConfig r, decodeMasterConfig_encodeConfig r⟩,
    decodeFault_encodeFault, decodeTime_encodeTime, decodeDate_encodeDate, decodeU8U8_encodeU8U8⟩

/-- Settles O31, record by record; the two config decoders are one function (R195). -/
theorem unusedBitsAreDropped : Obligations.UnusedBitsAreDropped := fun v =>
  ⟨encodeStatus_decodeStatus v, encodeConfig_decodeMasterConfig v, encodeConfig_decodeMasterConfig v,
    encodeFault_decodeFault v, encodeTime_decodeTime v, highByte_append_lowByte v, highByte_append_lowByte v⟩

end Sys2Proof.Machine
end

section
/-! SUPPORT. The start of a transaction and one poll of the engine, in the words the statements are written in: the frames
a poll accepts, the reading of the time base, and what a poll leaves (R232, R235). -/

namespace Sys2Proof.Machine

/-! ### The frames a poll accepts (R237, R238) -/

theorem checkCapture_eq_ok_iff {c : Capture} {f : Frame} :
    checkCapture c = .ok f ↔ manchesterDecode c = .ok f ∧ setBits f % 2 = 0 := by
  refine ⟨checkCapture_ok, fun ⟨decoded, even⟩ => ?_⟩
  simp [checkCapture, decoded, (evenParity_iff_setBits f).2 even]

/-- A poll fails exactly where the engine's check accepts no frame in its answer. -/
theorem failing_iff {a : Option Capture} : failing a ↔ ∀ c f, a = some c → checkCapture c ≠ .ok f := by
  simp only [failing, ne_eq, checkCapture_eq_ok_iff, not_and, Nat.mod_two_ne_zero]

theorem completeOk_eq_succeeded (f : Frame) (s : State) : completeOk f s = s.succeeded f := by
  cases h : s.xcmd.finish <;> simp only [completeOk, State.succeeded, h] <;> rfl

@[simp] theorem succeeded_fsm (f : Frame) (s : State) : (s.succeeded f).fsm = .idle := by
  rw [← completeOk_eq_succeeded, completeOk_fsm]

@[simp] theorem succeeded_sent (f : Frame) (s : State) : (s.succeeded f).sent = s.sent := by
  rw [← completeOk_eq_succeeded, completeOk_sent]

/-! ### Reading the time base (R352) -/

/-- Time passes by one reading, at the clock it leaves. -/
theorem passTime_eq_readAt (s : State) : s.passTime = s.readAt s.passTime.clock := by
  cases h : s.delays with
  | nil => simp [passTime_free s h, State.readAt, h]
  | cons d ds => simp [passTime_scripted s h, State.readAt, h]

/-- The elapsed time of R240 is the true one as long as that is below 2^32 ms. -/
theorem elapsed_eq_sub {s : State} {start now : Nat} (xt0 : s.xt0 = BitVec.ofNat 32 start) (after : start ≤ now)
    (noWrap : now < start + 0x100000000) : s.elapsed now = now - start := by
  rw [State.elapsed, xt0, BitVec.toNat_sub, BitVec.toNat_ofNat, BitVec.toNat_ofNat]
  omega

/-! ### The start (R232) -/

theorem startTransaction_eq_started (x : XCmd) (r : Frame) (m : Millis) (s : State) :
    startTransaction x r m s = s.started x r m (startTransaction x r m s).clock :=
  congrArg (fun t => (t.setT0 t.timeNow).setFsm .awaitingResponse)
    (passTime_eq_readAt ((s.latch r m x).transmit r))

/-! ### The check of the window (R236, R239, R240) -/

/-- The window is open at the reading `now`: the engine has slept from there (R236). -/
def State.sleptFrom (s : State) (now : Nat) : State := { s.readAt now with clock := now + s.pollMs }

/-- The one check of the window, with the time base read at `now`. -/
def State.checkedAt (s : State) (now : Nat) : State :=
  if s.elapsed now > s.xtmo.toNat then (s.readAt now).timedOut else s.sleptFrom now

theorem checkedAt_expired {s : State} {now : Nat} (h : s.xtmo.toNat < s.elapsed now) :
    s.checkedAt now = (s.readAt now).timedOut := if_pos h

theorem checkedAt_open {s : State} {now : Nat} (h : s.elapsed now ≤ s.xtmo.toNat) : s.checkedAt now = s.sleptFrom now :=
  if_neg h.not_gt

/-- A sleep changes nothing of the block (R236). -/
theorem sameBlock_sleptFrom (s : State) (now : Nat) : SameBlock s (s.sleptFrom now) := by
  constructor <;> rfl

theorem windowExpired_iff_elapsed (s : State) (now : Nat) :
    windowExpired (BitVec.ofNat 32 now) s.xt0 s.xtmo = true ↔ s.xtmo.toNat < s.elapsed now := BitVec.ult_iff_lt

theorem checkWindow_eq_checkedAt (s : State) : checkWindow s = s.checkedAt s.passTime.clock := by
  have expires : windowExpired s.passTime.timeNow s.xt0 s.xtmo = true ↔ _ :=
    windowExpired_iff_elapsed s s.passTime.clock
  rcases checkWindow_cases s with ⟨expired, h⟩ | ⟨stillOpen, h⟩ <;> rw [h]
  · rw [checkedAt_expired (expires.1 expired)]
    exact congrArg (fun t => (t.setFsm .idle).pushReply s.xcmd.cmd (.err .timedOut)) (passTime_eq_readAt s)
  · rw [stillOpen, Bool.false_eq_true, false_iff, not_lt] at expires
    rw [checkedAt_open expires]
    exact congrArg State.sleep (passTime_eq_readAt s)

/-! ### One poll (R235) -/

section
variable {a : Option Capture} {s : State}

theorem iterate_of_accepted {c : Capture} {f : Frame} (inFlight : s.fsm = .awaitingResponse)
    (decoded : manchesterDecode c = .ok f) (even : setBits f % 2 = 0) : iterate (some c) s = s.succeeded f := by
  rw [iterate_awaiting inFlight, ← completeOk_eq_succeeded]
  simp [loopBody, checkCapture_eq_ok_iff.2 ⟨decoded, even⟩]

theorem iterate_of_failing (inFlight : s.fsm = .awaitingResponse) (failed : failing a) :
    iterate a s = s.checkedAt s.passTime.clock := by
  rw [iterate_awaiting inFlight, ← checkWindow_eq_checkedAt]
  rcases loopBody_cases a s with ⟨c, f, answer, accepted, -⟩ | ⟨-, h⟩
  · exact absurd accepted (failing_iff.1 failed c f answer)
  · exact h

/-- A poll in flight accepts a frame, or fails and checks the window. -/
theorem iterate_inFlight_cases (inFlight : s.fsm = .awaitingResponse) :
    (∃ c f, a = some c ∧ manchesterDecode c = .ok f ∧ setBits f % 2 = 0 ∧ iterate a s = s.succeeded f) ∨
    (failing a ∧ iterate a s = s.checkedAt s.passTime.clock) := by
  by_cases failed : failing a
  · exact .inr ⟨failed, iterate_of_failing inFlight failed⟩
  · simp only [failing_iff, not_forall, not_not] at failed
    obtain ⟨c, f, rfl, accepted⟩ := failed
    obtain ⟨decoded, even⟩ := checkCapture_ok accepted
    exact .inl ⟨c, f, rfl, decoded, even, iterate_of_accepted inFlight decoded even⟩

/-- A poll ends the transaction with the frame it returned or with `TimedOut`. -/
theorem iterate_ends (inFlight : s.fsm = .awaitingResponse) (ended : (iterate a s).fsm = .idle) :
    (∃ c f, a = some c ∧ manchesterDecode c = .ok f ∧ setBits f % 2 = 0 ∧ iterate a s = s.succeeded f) ∨
    iterate a s = (s.readAt s.passTime.clock).timedOut := by
  rcases iterate_inFlight_cases (a := a) inFlight with accepted | ⟨-, h⟩
  · exact .inl accepted
  · rcases lt_or_ge s.xtmo.toNat (s.elapsed s.passTime.clock) with expired | stillOpen
    · exact .inr (h.trans (checkedAt_expired expired))
    · rw [h, checkedAt_open stillOpen] at ended
      exact absurd (inFlight.symm.trans ended) (by decide)

/-- A poll leaves a transaction in flight only from one in flight, with the window open at its check. -/
theorem iterate_staysInFlight (h : (iterate a s).fsm = .awaitingResponse) :
    s.fsm = .awaitingResponse ∧ s.elapsed s.passTime.clock ≤ s.xtmo.toNat ∧
      iterate a s = s.sleptFrom s.passTime.clock := by
  cases inFlight : s.fsm with
  | idle => rw [iterate_idle inFlight, inFlight] at h; cases h
  | awaitingResponse =>
    rcases iterate_inFlight_cases (a := a) inFlight with ⟨c, f, -, -, -, he⟩ | ⟨-, he⟩
    · rw [he, succeeded_fsm] at h; cases h
    · rcases lt_or_ge s.xtmo.toNat (s.elapsed s.passTime.clock) with expired | stillOpen
      · rw [he, checkedAt_expired expired] at h; cases h
      · exact ⟨rfl, stillOpen, he.trans (checkedAt_open stillOpen)⟩

end

end Sys2Proof.Machine
end

section
/-! CERTIFICATE. What a step runs and what it does without an instruction (O7, O8), and the two commands of the engine
accepted in `Idle`: `XACT` (O34) and `SETTMO` (O35). -/

namespace Sys2Proof.Machine

section
variable {s : State} {rest : List Input}

theorem step_inputOfPacket {p : Packet} (h : s.inputs = inputOfPacket p :: rest) :
    step s = perform (presentPacket p { s with inputs := rest }) := by
  cases p with
  | request bytes => exact step_request h
  | wire f =>
    rw [inputOfPacket] at h
    simp [step, nextAction, h, popInput_of_inputs h]

theorem step_waitingRequest_idle {bytes : List Byte} (idle : s.fsm = .idle) (h : s.inputs = .request true bytes :: rest) :
    step s = perform (presentPacket (.request bytes) { s with inputs := rest }) := by
  simp [step, nextAction, h, idle, popInput_of_inputs h]

theorem step_waitingRequest_inFlight {bytes : List Byte} (inFlight : s.fsm = .awaitingResponse)
    (h : s.inputs = .request true bytes :: rest) : step s = .next (iterateFree s) := by
  simp [step, nextAction, h, inFlight, perform]

theorem step_poll {a : Option Capture} (h : s.inputs = .poll a :: rest) :
    step s = .next (iterate a { s with inputs := rest }) := by
  simp [step, nextAction, h, perform, popInput_of_inputs h]

theorem step_noInput_inFlight (inFlight : s.fsm = .awaitingResponse) (h : s.inputs = []) :
    step s = .next (iterateFree s) := by
  simp [step, nextAction, h, perform, stepWithoutInput, inFlight]

theorem step_noInput_idle (idle : s.fsm = .idle) (h : s.inputs = []) : step s = .next s := by
  simp [step, nextAction, h, perform, stepWithoutInput, idle]

end

theorem perform_presentPacket {p : Packet} {i : Instr} (s : State) (h : decode p = .ok i) :
    perform (presentPacket p s) = exec i s := congrArg perform (presentPacket_ok s h)

theorem decode_of_decodeTableWord {nbits w : Nat} {i : Instr} (h : decodeTableWord nbits w = some i) :
    decode (packetOfTableWord nbits w) = .ok i := by
  cases hd : decode (packetOfTableWord nbits w) with
  | ok j => rw [decodeTableWord, hd] at h; exact congrArg Except.ok (Option.some.inj h)
  | error e => rw [decodeTableWord, hd] at h; cases h

/-- Settles O7: each of the three ways presents the packet, and the decoder reads the instruction from it. -/
theorem stepRunsTheDecodedInstruction : Obligations.StepRunsTheDecodedInstruction := fun s _ _ =>
  ⟨fun _ decoded h => (step_inputOfPacket h).trans (perform_presentPacket _ decoded),
    fun _ decoded idle h => (step_waitingRequest_idle idle h).trans (perform_presentPacket _ decoded),
    fun nbits w word =>
      (step_inputOfPacket (s := s.withFetchWord nbits w) rfl).trans
        (perform_presentPacket s (decode_of_decodeTableWord word))⟩

/-- Settles O8, move by move. -/
theorem stepWithoutInstruction : Obligations.StepWithoutInstruction := fun _ _ =>
  ⟨fun _ h => step_poll h, fun _ inFlight h => step_waitingRequest_inFlight inFlight h,
    fun h inFlight => step_noInput_inFlight inFlight h, fun h idle => step_noInput_idle idle h⟩

/-- Settles O34: the command begins, and its start is the one R232 describes. -/
theorem xactStartsTheTransaction : Obligations.XactStartsTheTransaction := fun r m s idle =>
  ⟨rfl, _, clock_le_startTransaction ⟨.xact r m, .replyFrame⟩ r m s,
    (exec_xact s r m).trans (congrArg _ ((whenIdle_idle idle).trans (startTransaction_eq_started ..)))⟩

/-- Settles O35: the command begins, and writes `TIMEOUT` before it replies. -/
theorem settmoWritesTimeout : Obligations.SettmoWritesTimeout := fun ms s idle =>
  ⟨rfl, (exec_settmo s ms).trans (congrArg _ (whenIdle_idle idle))⟩

end Sys2Proof.Machine
end

section
/-! CERTIFICATE. One poll of the engine: an accepted capture (O40), a failed one (O41), and the frame rows (O42, O43). -/

namespace Sys2Proof.Machine

/-- Settles O40: the scripted poll accepts the frame. -/
theorem validCaptureEndsTheTransaction : Obligations.ValidCaptureEndsTheTransaction :=
  fun _ _ _ _ inFlight h decoded even =>
    (step_poll h).trans (congrArg _ (iterate_of_accepted inFlight decoded even))

/-- Settles O41: the scripted poll fails, and its check reads the time base where time has passed to. -/
theorem failedPollChecksTheWindow : Obligations.FailedPollChecksTheWindow :=
  fun s _ rest inFlight h failed =>
    ⟨_, clock_le_passTime { s with inputs := rest }, (step_poll h).trans (congrArg _ (iterate_of_failing inFlight failed))⟩

/-! ### The frame rows (R82) -/

/-- The eight rows with their message types. -/
def frameRows (p : Bool) (sp : BitVec 4) (d : Byte) (v : DataValue) : List (Instr × BitVec 3) :=
  [0#3, 1#3, 2#3, 3#3, 4#3, 5#3, 6#3, 7#3].map fun m => (frameRow p m sp d v, m)

/-- Each row is the engine's poll of its own frame word (log 1). -/
theorem exec_of_mem_frameRows {p : Bool} {sp : BitVec 4} {d : Byte} {v : DataValue} {row : Instr × BitVec 3}
    (h : row ∈ frameRows p sp d v) (s : State) :
    exec row.1 s = .next (iterate (some (manchesterEncode (frameWord p row.2 sp d v))) s) := by
  obtain ⟨m, -, rfl⟩ := List.mem_map.1 h
  rw [← exec_decodeWire, decodeWire_frameWord]

/-- Settles O42: the row is the poll of its frame's own capture, which decodes to that frame. -/
theorem evenFramesOfEveryTypeAreAccepted : Obligations.EvenFramesOfEveryTypeAreAccepted :=
  fun _ _ _ _ s inFlight _ isRow even =>
    (exec_of_mem_frameRows isRow s).trans
      (congrArg _ (iterate_of_accepted inFlight (manchesterDecode_manchesterEncode _) even))

/-- A frame of odd parity makes its poll fail (R237). -/
theorem failing_of_odd {f : Frame} (odd : setBits f % 2 = 1) : failing (some (manchesterEncode f)) := by
  intro c g answer decoded
  cases answer
  cases (manchesterDecode_manchesterEncode f).symm.trans decoded
  exact odd

theorem failing_none : failing none := fun _ _ answer => by cases answer

/-- Settles O43: a failed poll is the check of the window whatever its answer was, and in `Idle` there is no poll. -/
theorem oddFramesAreSilenceAndIdleIgnoresFrames : Obligations.OddFramesAreSilenceAndIdleIgnoresFrames :=
  fun _ _ _ _ s _ isRow =>
    ⟨fun inFlight odd => (exec_of_mem_frameRows isRow s).trans (congrArg _
        ((iterate_of_failing inFlight (failing_of_odd odd)).trans (iterate_of_failing inFlight failing_none).symm)),
      fun idle => (exec_of_mem_frameRows isRow s).trans (congrArg _ (iterate_idle idle))⟩

end Sys2Proof.Machine
end

section
/-! SUPPORT. What a sequence of polls leaves: a transaction still in flight is the same one, later; one that has ended was
ended by one of the polls. -/

namespace Sys2Proof.Machine

@[simp] theorem polls_concat (as : List (Option Capture)) (a : Option Capture) (s : State) :
    polls (as ++ [a]) s = iterate a (polls as s) := List.foldl_concat ..

section
variable {as : List (Option Capture)} {s : State}

theorem timeGoesOn_polls (as : List (Option Capture)) (s : State) : TimeGoesOn s (polls as s) := by
  induction as using List.reverseRecOn with
  | nil => exact .of_eq rfl rfl
  | append_singleton as a ih => exact (polls_concat as a s).symm ▸ ih.trans (timeGoesOn_iterate a _)

/-- While polls leave a transaction in flight they change nothing of the block. -/
theorem sameBlock_polls (h : (polls as s).fsm = .awaitingResponse) : SameBlock s (polls as s) := by
  induction as using List.reverseRecOn with
  | nil => exact .refl s
  | append_singleton as a ih =>
    rw [polls_concat] at h ⊢
    obtain ⟨before, -, slept⟩ := iterate_staysInFlight h
    exact slept.symm ▸ (ih before).trans (sameBlock_sleptFrom _ _)

/-- Each poll that leaves a transaction in flight has slept for the interval (R236). -/
theorem clock_polls_of_inFlight (h : (polls as s).fsm = .awaitingResponse) :
    s.clock + as.length * s.pollMs ≤ (polls as s).clock := by
  induction as using List.reverseRecOn with
  | nil => simp [polls]
  | append_singleton as a ih =>
    rw [polls_concat] at h ⊢
    obtain ⟨before, -, slept⟩ := iterate_staysInFlight h
    have earlier := ih before
    have reading := clock_le_passTime (polls as s)
    obtain ⟨poll, -⟩ := timeGoesOn_polls as s
    rw [slept, List.length_append, List.length_singleton, Nat.succ_mul]
    change _ ≤ (polls as s).passTime.clock + (polls as s).pollMs
    omega

/-- A transaction that has ended was ended by one of the polls, and the later ones did nothing (R243). -/
theorem exists_decidingPoll (inFlight : s.fsm = .awaitingResponse) (ended : (polls as s).fsm = .idle) :
    ∃ before, ∃ a ∈ as, (polls before s).fsm = .awaitingResponse ∧ polls as s = iterate a (polls before s) := by
  induction as using List.reverseRecOn with
  | nil => exact absurd (inFlight.symm.trans ended) (by decide)
  | append_singleton as a ih =>
    rw [polls_concat] at ended ⊢
    cases h : (polls as s).fsm with
    | awaitingResponse => exact ⟨as, a, by simp, h, rfl⟩
    | idle =>
      obtain ⟨before, b, mem, still, decides⟩ := ih h
      exact ⟨before, b, List.mem_append_left _ mem, still, (iterate_idle h).trans decides⟩

end

/-- `t` is what the start of the transaction of command `i` leaves of `s` (R230, R232). -/
structure HasStarted (i : Instr) (s t : State) : Prop where
  inFlight : t.fsm = .awaitingResponse
  xtmo : t.xtmo = timeoutOf i s
  xt0 : t.xt0 = BitVec.ofNat 32 t.clock
  cmd : t.xcmd.cmd = i
  replies : t.replies = s.replies
  sent : t.sent = t.xreq :: s.sent
  delays : t.delays = s.delays.tail
  pollMs : t.pollMs = s.pollMs
  /-- What the command replies if its transaction succeeds (R351). -/
  answer : ∀ (u : State) f, u.xcmd = t.xcmd → (u.succeeded f).replies = ⟨i, okAnswer i f⟩ :: u.replies

theorem hasStarted_of_exec {i : Instr} {s t : State} (starts : startsTransaction i = true) (idle : s.fsm = .idle)
    (h : exec i s = .next t) : HasStarted i s t := by
  obtain ⟨x, r, u, drawn, cmd, answer, he⟩ := exec_startsTransaction starts idle
  rw [startTransaction_eq_started] at he
  cases he.symm.trans h
  rcases drawn with rfl | rfl <;> exact ⟨rfl, rfl, rfl, cmd, rfl, rfl, rfl, rfl, answer⟩

end Sys2Proof.Machine
end

section
/-! CERTIFICATE. A whole transaction: one send and one outcome (O47), the bound on its polls (O48), the time of `TimedOut`
with exact sleeps (O49), a malformed capture before the response (O45), and the largest timeout (O46). -/

namespace Sys2Proof.Machine

/-! ### One outcome (R242) -/

/-- A transaction that has ended has sent nothing more and has given one reply, to its command. -/
theorem reply_of_ended {i : Instr} {s t : State} {as : List (Option Capture)} (start : HasStarted i s t)
    (ended : (polls as t).fsm = .idle) : (polls as t).sent = t.sent ∧
      ∃ a, (polls as t).replies = ⟨i, a⟩ :: s.replies ∧ (a = .err .timedOut ∨
        ∃ c f, some c ∈ as ∧ manchesterDecode c = .ok f ∧ setBits f % 2 = 0 ∧ a = okAnswer i f) := by
  obtain ⟨before, b, mem, still, decides⟩ := exists_decidingPoll start.inFlight ended
  have same := sameBlock_polls still
  rw [decides] at ended ⊢
  rcases iterate_ends still ended with ⟨c, f, rfl, decoded, even, h⟩ | h <;> rw [h]
  · refine ⟨by rw [succeeded_sent, same.sent], _, ?_, .inr ⟨c, f, mem, decoded, even, rfl⟩⟩
    rw [start.answer _ f same.xcmd, same.replies, start.replies]
  · refine ⟨same.sent, .err .timedOut, ?_, .inl rfl⟩
    rw [← start.cmd, ← start.replies, ← same.xcmd, ← same.replies]
    rfl

/-- Settles O47: in flight the block is as the start left it, and the deciding poll gives the one reply. -/
theorem oneSendOneOutcome : Obligations.OneSendOneOutcome := by
  intro i s t as starts idle h
  have start := hasStarted_of_exec starts idle h
  refine ⟨start.inFlight, start.xtmo, start.replies, start.sent, ?_⟩
  rw [← start.sent]
  cases now : (polls as t).fsm with
  | awaitingResponse =>
    have same := sameBlock_polls now
    exact ⟨same.sent, .inl ⟨rfl, same.replies.trans start.replies⟩⟩
  | idle =>
    obtain ⟨sent, reply⟩ := reply_of_ended start now
    exact ⟨sent, .inr ⟨rfl, reply⟩⟩

/-! ### The bound on the polls (R241) -/

/-- A poll that leaves the transaction in flight read the time base within the window, if the time base has not wrapped. -/
theorem clock_le_of_inFlight {i : Instr} {s t : State} {as : List (Option Capture)} {a : Option Capture}
    (start : HasStarted i s t) (still : (polls (as ++ [a]) t).fsm = .awaitingResponse)
    (noWrap : (polls (as ++ [a]) t).clock < t.clock + 0x100000000) :
    (polls as t).clock ≤ t.clock + (timeoutOf i s).toNat := by
  rw [polls_concat] at still noWrap
  obtain ⟨before, stillOpen, slept⟩ := iterate_staysInFlight still
  have same := sameBlock_polls before
  obtain ⟨-, later⟩ := timeGoesOn_polls as t
  have reading := clock_le_passTime (polls as t)
  have early : (polls as t).passTime.clock < t.clock + 0x100000000 :=
    (Nat.le_add_right _ _).trans_lt (slept ▸ noWrap)
  rw [elapsed_eq_sub (same.xt0.trans start.xt0) (later.trans reading) early, same.xtmo, start.xtmo] at stillOpen
  omega

/-- Settles O48: the last poll's check would read the time base beyond the window, since each poll before it slept. -/
theorem transactionEndsWithinThePollBound : Obligations.TransactionEndsWithinThePollBound := by
  intro i s t as starts idle legal h length noWrap
  have start := hasStarted_of_exec starts idle h
  cases still : (polls as t).fsm with
  | idle => rfl
  | awaitingResponse =>
    obtain rfl | ⟨before, a, rfl⟩ := as.eq_nil_or_concat'
    · simp at length
    have within := clock_le_of_inFlight start still noWrap
    rw [polls_concat] at still
    obtain ⟨earlier, -, -⟩ := iterate_staysInFlight still
    have sleeps := clock_polls_of_inFlight earlier
    have count : before.length = (timeoutOf i s).toNat / s.pollMs + 1 := by simpa using length
    have beyond := Nat.lt_mul_div_succ (timeoutOf i s).toNat legal
    rw [count, start.pollMs, Nat.mul_comm] at sleeps
    omega

/-! ### Exact sleeps (R241, R247) -/

/-- `t`, that many exact sleeps and readings of the time base later. -/
def State.exactly (t : State) (sleeps readings : Nat) : State :=
  { t with clock := t.clock + sleeps * t.pollMs, delays := t.delays.drop readings }

/-- The number of the first multiple of the poll interval beyond the window (R241). -/
def State.firstBeyond (t : State) : Nat := t.xtmo.toNat / t.pollMs + 1

/-- A transaction has just started, and nothing but the sleeps takes time for the next `N` readings (R241). -/
structure ExactTime (t : State) (N : Nat) : Prop where
  inFlight : t.fsm = .awaitingResponse
  legal : ParametersLegal t
  xt0 : t.xt0 = BitVec.ofNat 32 t.clock
  delays : t.delays = List.replicate N 0

section
variable {t : State} {N : Nat}

theorem ExactTime.succ_le_firstBeyond_iff (time : ExactTime t N) (n : Nat) :
    n + 1 ≤ t.firstBeyond ↔ n * t.pollMs ≤ t.xtmo.toNat :=
  Nat.succ_le_succ_iff.trans (Nat.le_div_iff_mul_le time.legal)

theorem ExactTime.le_firstBeyond_iff (time : ExactTime t N) (n : Nat) :
    n ≤ t.firstBeyond ↔ n = 0 ∨ (n - 1) * t.pollMs ≤ t.xtmo.toNat := by
  cases n with
  | zero => simp
  | succ n => simpa using time.succ_le_firstBeyond_iff n

/-- A scripted delay of 0 makes the reading one of the same clock. -/
theorem ExactTime.passTime_exactly (time : ExactTime t N) {n : Nat} (more : n < N) :
    (t.exactly n n).passTime = t.exactly n (n + 1) := by
  have next : t.delays.drop n = 0 :: t.delays.drop (n + 1) := by
    rw [time.delays, List.drop_eq_getElem_cons (by simpa using more), List.getElem_replicate]
  exact passTime_scripted (t.exactly n n) next

theorem ExactTime.elapsed_exactly (time : ExactTime t N) {n : Nat} (noWrap : n * t.pollMs < 0x100000000) :
    (t.exactly n n).elapsed (t.clock + n * t.pollMs) = n * t.pollMs :=
  (elapsed_eq_sub (s := t.exactly n n) time.xt0 (Nat.le_add_right ..) (Nat.add_lt_add_left noWrap _)).trans
    (Nat.add_sub_cancel_left ..)

/-- The check that follows `n` sleeps times out at the first multiple beyond the window and not before. -/
theorem ExactTime.iterate_exactly (time : ExactTime t N) {n : Nat} {a : Option Capture} (more : n < N)
    (noWrap : n * t.pollMs < 0x100000000) (failed : failing a) :
    iterate a (t.exactly n n) =
      if n + 1 ≤ t.firstBeyond then t.exactly (n + 1) (n + 1) else (t.exactly n (n + 1)).timedOut := by
  have elapsed := time.elapsed_exactly noWrap
  have reading : (t.exactly n n).readAt (t.clock + n * t.pollMs) = t.exactly n (n + 1) := by
    have passed := time.passTime_exactly more
    exact (congrArg (fun u => (t.exactly n n).readAt u.clock) passed).symm.trans
      ((passTime_eq_readAt _).symm.trans passed)
  rw [iterate_of_failing (s := t.exactly n n) time.inFlight failed, time.passTime_exactly more]
  change (t.exactly n n).checkedAt (t.clock + n * t.pollMs) = _
  by_cases stillOpen : n * t.pollMs ≤ t.xtmo.toNat
  · rw [if_pos ((time.succ_le_firstBeyond_iff n).2 stillOpen), checkedAt_open (elapsed.trans_le stillOpen),
      State.sleptFrom, reading]
    simp [State.exactly, Nat.succ_mul, Nat.add_assoc]
  · rw [if_neg (mt (time.succ_le_firstBeyond_iff n).1 stillOpen), ← reading]
    exact checkedAt_expired ((not_le.1 stillOpen).trans_eq elapsed.symm)

/-- After failing polls the transaction has slept once for each, or it timed out at the first multiple beyond the
window. -/
theorem ExactTime.polls_eq (time : ExactTime t N) {as : List (Option Capture)} (failed : ∀ a ∈ as, failing a)
    (enough : as.length ≤ N) (noWrap : as.length * t.pollMs < 0x100000000) :
    polls as t = if as.length ≤ t.firstBeyond then t.exactly as.length as.length
      else (t.exactly t.firstBeyond (t.firstBeyond + 1)).timedOut := by
  induction as using List.reverseRecOn with
  | nil => simp [polls, State.exactly]
  | append_singleton as a ih =>
    rw [List.length_append, List.length_singleton] at enough noWrap ⊢
    have earlier : as.length * t.pollMs < 0x100000000 := (Nat.mul_le_mul_right _ (Nat.le_succ _)).trans_lt noWrap
    rw [polls_concat, ih (fun b hb => failed b (List.mem_append_left _ hb)) (by omega) earlier]
    have next := time.iterate_exactly enough earlier (failed a (by simp))
    rcases lt_trichotomy as.length t.firstBeyond with before | deciding | ended
    · rw [if_pos before.le, next]
      simp [Nat.succ_le_of_lt before]
    · rw [if_pos deciding.le, next, deciding]
    · rw [if_neg ended.not_ge, if_neg (by omega), iterate_idle rfl]

end

/-- Settles O49: the polls leave the transaction in flight up to the one that checks at the first multiple. -/
theorem exactSleepTimesOutAtTheFirstMultiple : Obligations.ExactSleepTimesOutAtTheFirstMultiple := by
  intro i s t as n starts idle legal delays h length failed noWrap
  have start := hasStarted_of_exec starts idle h
  have time : ExactTime t n :=
    ⟨start.inFlight, legal.trans_eq start.pollMs.symm, start.xt0, by rw [start.delays, delays]; rfl⟩
  subst length
  rw [← start.pollMs] at noWrap ⊢
  have after := time.polls_eq failed le_rfl noWrap
  have when : (polls as t).fsm = .awaitingResponse ↔ as.length ≤ t.firstBeyond := by
    rw [after]
    split_ifs with within <;> simp [within, State.exactly, State.timedOut, start.inFlight]
  rw [← start.xtmo]
  refine ⟨when.trans (time.le_firstBeyond_iff _), fun still => ?_, fun ended => ?_⟩
  · rw [after, if_pos (when.1 still)]
    rfl
  · have late : ¬as.length ≤ t.firstBeyond := fun within => absurd (ended.symm.trans (when.2 within)) (by decide)
    rw [after, if_neg late, ← start.cmd, ← start.replies]
    exact ⟨rfl, rfl⟩

/-! ### A malformed capture before the response (R247, R360) -/

/-- Settles O45: the check after the first poll passes, and the second poll accepts. -/
theorem malformedThenValidSucceeds : Obligations.MalformedThenValidSucceeds := by
  intro s bad good f d ds inFlight failed decoded even delays stillOpen
  have reading : s.passTime.clock = s.clock + d := by rw [passTime_scripted s delays]
  have slept : iterate (some bad) s = { s with clock := s.clock + d + s.pollMs, delays := ds } := by
    rw [iterate_of_failing inFlight failed, reading, checkedAt_open stillOpen]
    simp [State.sleptFrom, State.readAt, delays]
  exact (congrArg (iterate (some good)) slept).trans
    (iterate_of_accepted (s := { s with clock := s.clock + d + s.pollMs, delays := ds }) inFlight decoded even)

/-! ### The largest timeout (R244) -/

theorem elapsed_le_of_largest {s : State} (xtmo : s.xtmo = 0xFFFFFFFF#32) (now : Nat) :
    s.elapsed now ≤ s.xtmo.toNat :=
  xtmo ▸ Nat.le_of_lt_succ (BitVec.isLt _)

theorem polls_inFlight_of_largest {as : List (Option Capture)} {s : State} (inFlight : s.fsm = .awaitingResponse)
    (xtmo : s.xtmo = 0xFFFFFFFF#32) (failed : ∀ a ∈ as, failing a) : (polls as s).fsm = .awaitingResponse := by
  induction as using List.reverseRecOn with
  | nil => exact inFlight
  | append_singleton as a ih =>
    have still := ih fun b hb => failed b (List.mem_append_left _ hb)
    have same := sameBlock_polls still
    rw [polls_concat, iterate_of_failing still (failed a (by simp)),
      checkedAt_open (elapsed_le_of_largest (same.xtmo.trans xtmo) _)]
    exact still

/-- Settles O46: no 32-bit number exceeds `XTMO`, so each check lets the engine sleep. -/
theorem largestTimeoutNeverTimesOut : Obligations.LargestTimeoutNeverTimesOut := by
  intro as s inFlight xtmo failed
  have still := polls_inFlight_of_largest inFlight xtmo failed
  have same := sameBlock_polls still
  exact ⟨still, same.replies, same.sent⟩

end Sys2Proof.Machine
end

section
/-! CERTIFICATE. The 38 typed reads (R261 to R298): the transaction each one starts in `Idle` (O36), and what an accepted
frame puts into `OUT` (O44). -/

namespace Sys2Proof.Machine

/-! ### The rows of the table -/

theorem selectorOf_readRow : ∀ row ∈ readRows, selectorOf row.cmd = some row.selector := by decide

/-- The request word of each row is the read request for the data-id it carries (R260, R124). -/
theorem buildRead_readRow : ∀ row ∈ readRows, buildRead (frameDataId row.request) = row.request := by decide

/-- The command of each row is the typed read of that data-id with the row's decoder (R260). -/
theorem exec_readRow {row : ReadRow} (isRow : row ∈ readRows) (s : State) :
    exec row.cmd s = .next (typedRead row.cmd (frameDataId row.request) row.decoder s) := by
  fin_cases isRow <;> rfl

theorem exec_readRow_idle {row : ReadRow} (isRow : row ∈ readRows) {s : State} (idle : s.fsm = .idle) :
    exec row.cmd s = .next (startTransaction ⟨row.cmd, .store row.decoder⟩ row.request s.timeout s) := by
  rw [exec_readRow isRow, typedRead_idle idle, buildRead_readRow row isRow]

/-- Settles O36: the command begins, and its start is the one R232 describes. -/
theorem typedReadsTransmitTheirRequest : Obligations.TypedReadsTransmitTheirRequest := fun row isRow s idle =>
  ⟨selectorOf_readRow row isRow, _, clock_le_startTransaction ⟨row.cmd, .store row.decoder⟩ row.request s.timeout s,
    (exec_readRow_idle isRow idle).trans (congrArg _ (startTransaction_eq_started ..))⟩

/-! ### The value in `OUT` (R95) -/

theorem highByte_frameDataValue (f : Frame) : highByte (frameDataValue f) = f.extractLsb' 8 8 :=
  BitVec.extractLsb'_extractLsb'_of_le (by decide)

theorem lowByte_frameDataValue (f : Frame) : lowByte (frameDataValue f) = f.extractLsb' 0 8 :=
  BitVec.extractLsb'_extractLsb'_of_le (by decide)

theorem decodeFor_u8u8 (f : Frame) : decodeFor .u8u8 f = .bytes (f.extractLsb' 8 8) (f.extractLsb' 0 8) :=
  congrArg₂ OutValue.bytes (highByte_frameDataValue f) (lowByte_frameDataValue f)

theorem decodeFor_s16 (f : Frame) : decodeFor .s16 f = .s16 (signed16 (f.extractLsb' 0 16)) :=
  congrArg OutValue.s16 (asS16_eq_signed16 (frameDataValue f))

/-- A frame that ends a typed read is stored decoded, and the command is answered `Ok` (R238, R351). -/
theorem succeeded_of_store {s : State} {c : Instr} {d : Decoder} (read : s.xcmd = ⟨c, .store d⟩) (f : Frame) :
    s.succeeded f =
      { s with fsm := .idle, out := decodeFor d f, outWritten := true, replies := ⟨c, .ok .none⟩ :: s.replies } := by
  simp [State.succeeded, read]

/-- Settles O44: the first poll accepts the frame for the transaction the command started; two decoders are written in
the statement in words of its own. -/
theorem typedReadDeliversTheDecodedFrame : Obligations.TypedReadDeliversTheDecodedFrame := by
  intro row isRow s t f idle even begun
  cases (exec_readRow_idle isRow idle).symm.trans begun
  rw [iterate_of_accepted (startTransaction_fsm ..) (manchesterDecode_manchesterEncode f) even,
    succeeded_of_store (startTransaction_xcmd ..), startTransaction_replies]
  cases row.decoder with
  | u8u8 => rw [decodeFor_u8u8]
  | s16 => rw [decodeFor_s16]
  | _ => rfl

end Sys2Proof.Machine
end

section
/-! CERTIFICATE. The eight typed writes (R320 to R328): the transaction that the integer and record writes start in
`Idle` (O37), and the one that the setpoint writes start with a specified (O38) and an unspecified value (O39). -/

namespace Sys2Proof.Machine

/-! ### The transaction of a write request (R124, R232, R320) -/

/-- A command that begins by transmitting `BLDWR(d, v)` starts the transaction of a WRITE-DATA frame with that id and
value. The transaction starts from `u`, the state once a free value is drawn where one is needed (log 8). -/
theorem writeRequest_started {i : Instr} {d : Byte} {v : DataValue} {s u : State} {m : Millis}
    (begun : exec i s = .next (startTransaction ⟨i, .acknowledge⟩ (buildWrite d v) m u)) :
    ∃ (w : Frame) (now : Nat), u.clock ≤ now ∧ exec i s = .next (u.started ⟨i, .acknowledge⟩ w m now) ∧
      w.extractLsb' 28 3 = 1#3 ∧ w.extractLsb' 24 4 = 0#4 ∧ w.extractLsb' 16 8 = d ∧ w.extractLsb' 0 16 = v ∧
      setBits w % 2 = 0 :=
  ⟨buildWrite d v, _, clock_le_startTransaction ⟨i, .acknowledge⟩ (buildWrite d v) m u,
    begun.trans (congrArg _ (startTransaction_eq_started ..)), frameMsgType_frameWord .., frameSpare_frameWord ..,
    frameDataId_frameWord .., frameDataValue_frameWord .., setBits_packFrame ..⟩

/-! ### The integer and record writes (R325 to R328) -/

theorem toNat_encodeDate (r : CalendarDate) : (encodeDate r).toNat = 256 * r.month.toNat + r.day.toNat := by
  rw [encodeDate, toNat_append_eq_add]
  omega

/-- The two enables are the lowest bits of the high byte (R325, decision D25). -/
theorem toNat_encodeStatus_enableStatus (ch dhw : Bool) :
    (encodeStatus (enableStatus ch dhw)).toNat = 256 * ch.toNat + 512 * dhw.toNat := by
  rw [toNat_encodeStatus]
  simp [enableStatus]

/-- Command, selector, data-id and the number sent, as O37 lists them. -/
def typedWriteRows (tm : TimeOfDay) (da : CalendarDate) (y : DataValue) (ch dhw : Bool) :
    List (Instr × Byte × Byte × Nat) :=
  [(.wrDaytime tm, 0x55#8, 20#8, 8192 * tm.dayOfWeek.toNat + 256 * tm.hour.toNat + tm.minute.toNat),
    (.wrDate da, 0x56#8, 21#8, 256 * da.month.toNat + da.day.toNat),
    (.wrYear y, 0x57#8, 22#8, y.toNat),
    (.wrChDhwEnable ch dhw, 0x54#8, 0#8, 256 * ch.toNat + 512 * dhw.toNat)]

/-- The command of each row is the typed write of that data-id, with the value that is the row's number. -/
theorem exec_typedWriteRow (tm : TimeOfDay) (da : CalendarDate) (y : DataValue) (ch dhw : Bool) (s : State) :
    ∀ row ∈ typedWriteRows tm da y ch dhw, selectorOf row.1 = some row.2.1 ∧
      ∃ v, exec row.1 s = .next (typedWrite row.1 row.2.2.1 v s) ∧ v.toNat = row.2.2.2 := by
  simp only [typedWriteRows, List.forall_mem_cons]
  refine ⟨⟨rfl, _, exec_wrDaytime s tm, toNat_encodeTime tm⟩, ⟨rfl, _, exec_wrDate s da, toNat_encodeDate da⟩,
    ⟨rfl, _, exec_wrYear s y, rfl⟩,
    ⟨rfl, _, exec_wrChDhwEnable s ch dhw, toNat_encodeStatus_enableStatus ch dhw⟩, List.forall_mem_nil _⟩

/-- Settles O37: the command begins, and the value it sends is the row's number. -/
theorem typedWritesTransmitTheirRequest : Obligations.TypedWritesTransmitTheirRequest := by
  intro tm da y ch dhw s idle row isRow
  obtain ⟨selector, v, means, number⟩ := exec_typedWriteRow tm da y ch dhw s row isRow
  obtain ⟨w, now, later, started, msgType, spare, dataId, rfl, even⟩ :=
    writeRequest_started (means.trans (congrArg _ (typedWrite_idle idle)))
  exact ⟨selector, w, now, later, started, msgType, spare, dataId, number, even⟩

/-! ### The setpoint writes (R321 to R324) -/

/-- Command, selector and data-id, as O38 lists them; O39 lists the commands and the data-ids. -/
def setpointRows (t : F32) : List (Instr × Byte × Byte) :=
  [(.wrControlSetpoint t, 0x50#8, 1#8), (.wrRoomSetpoint t, 0x51#8, 16#8), (.wrDhwSetpoint t, 0x52#8, 56#8),
    (.wrMaxChSetpoint t, 0x53#8, 57#8)]

/-- The command of each row is the setpoint write of that data-id. -/
theorem exec_setpointRow (t : F32) (s : State) :
    ∀ row ∈ setpointRows t, selectorOf row.1 = some row.2.1 ∧
      exec row.1 s = .next (setpointWrite row.1 row.2.2 t s) := by
  simp only [setpointRows, List.forall_mem_cons]
  exact ⟨⟨rfl, exec_wrControlSetpoint s t⟩, ⟨rfl, exec_wrRoomSetpoint s t⟩, ⟨rfl, exec_wrDhwSetpoint s t⟩,
    ⟨rfl, exec_wrMaxChSetpoint s t⟩, List.forall_mem_nil _⟩

/-- Settles O38: in the specified range the value sent is the truncation toward zero. -/
theorem setpointWritesTransmitTheTruncatedValue : Obligations.SetpointWritesTransmitTheTruncatedValue := by
  intro t q s idle value low high row isRow
  obtain ⟨selector, means⟩ := exec_setpointRow t s row isRow
  obtain ⟨v, result, truncated⟩ := f88FromFloat_specified value low high
  obtain ⟨w, now, later, started, msgType, spare, dataId, rfl, even⟩ :=
    writeRequest_started (means.trans (congrArg _ (setpointWrite_specified idle result)))
  exact ⟨selector, w, now, later, started, msgType, spare, dataId, truncated, even⟩

/-- Settles O39: outside the range the value sent is a free one, drawn before the transaction starts. -/
theorem setpointWritesOutOfRangeStillTransmit : Obligations.SetpointWritesOutOfRangeStillTransmit := by
  intro t s idle outside pair isPair
  have listed : pair ∈ (setpointRows t).map fun row => (row.1, row.2.2) := isPair
  obtain ⟨row, isRow, rfl⟩ := List.mem_map.1 listed
  obtain ⟨-, means⟩ := exec_setpointRow t s row isRow
  have unspecified := f88FromFloat_unspecified outside
  obtain ⟨w, now, later, started, msgType, spare, dataId, -, even⟩ :=
    writeRequest_started (means.trans (congrArg _ (setpointWrite_unspecified idle unspecified)))
  exact ⟨w, now, later, started, msgType, spare, dataId, even⟩

end Sys2Proof.Machine
end

section
/-! SUPPORT. The classes of commands by their selectors (R100), and the command of a transaction in flight. -/

namespace Sys2Proof.Machine

section
variable {i : Instr}

theorem engineCommand_iff : engineCommand i = true ↔ ∃ op, selectorOf i = some op ∧ 0x40 ≤ op.toNat := by
  cases h : selectorOf i <;> simp [engineCommand, h]

theorem pureCommand_iff : pureCommand i = true ↔ ∃ op, selectorOf i = some op ∧ op.toNat < 0x40 := by
  cases h : selectorOf i <;> simp [pureCommand, h]

theorem startsTransaction_iff :
    startsTransaction i = true ↔ ∃ op, selectorOf i = some op ∧ (op = 0x40#8 ∨ 0x50 ≤ op.toNat) := by
  cases h : selectorOf i <;> simp [startsTransaction, h]

theorem not_pureCommand_of_engineCommand (engine : engineCommand i = true) : ¬pureCommand i = true := by
  rw [pureCommand_iff]
  rintro ⟨op, selected, low⟩
  obtain ⟨op', selected', high⟩ := engineCommand_iff.1 engine
  cases selected.symm.trans selected'
  omega

theorem engineCommand_of_startsTransaction (starts : startsTransaction i = true) : engineCommand i = true := by
  obtain ⟨op, selected, rfl | high⟩ := startsTransaction_iff.1 starts
  · exact engineCommand_iff.2 ⟨_, selected, by decide⟩
  · exact engineCommand_iff.2 ⟨op, selected, by omega⟩

/-- `SETTMO` needs no transaction (R245). -/
theorem ne_settmo_of_startsTransaction (starts : startsTransaction i = true) (ms : Millis) : i ≠ .settmo ms := by
  rintro rfl
  exact Bool.false_ne_true starts

end

/-- The typed reads have the selectors from 0x80 on (R101); the typed writes have those from 0x50 on (R100). -/
theorem registry_selector_ge : ∀ row ∈ registry, 0x50 ≤ (0x80#8 + row.1).toNat := by simp [registry]

theorem writeIds_selector_ge : ∀ row ∈ writeIds, 0x50 ≤ row.1.toNat := by simp [writeIds]

/-- What `XCMD` holds for the request transmitted is a command that needs a transaction (R28, R232). -/
theorem startsTransaction_of_startedBy {x : XCmd} {r : Frame} (h : startedBy x r = true) :
    startsTransaction x.cmd = true := by
  obtain ⟨cmd, finish⟩ := x
  cases finish with
  | replyFrame =>
    cases cmd
    case xact => rfl
    all_goals exact (Bool.false_ne_true h).elim
  | store d =>
    obtain ⟨row, registered, matching⟩ := List.any_eq_true.1 h
    simp only [Bool.and_eq_true, decide_eq_true_eq] at matching
    obtain ⟨-, selected⟩ := matching
    exact startsTransaction_iff.2 ⟨_, selected, .inr (registry_selector_ge row registered)⟩
  | acknowledge =>
    obtain ⟨row, listed, matching⟩ := List.any_eq_true.1 h
    simp only [Bool.and_eq_true, decide_eq_true_eq] at matching
    obtain ⟨⟨⟨⟨selected, -⟩, -⟩, -⟩, -⟩ := matching
    exact startsTransaction_iff.2 ⟨_, selected, .inr (writeIds_selector_ge row listed)⟩

theorem TransactionHeld.startsTransaction_xcmd {s : State} (held : TransactionHeld s)
    (inFlight : s.fsm = .awaitingResponse) : startsTransaction s.xcmd.cmd = true := by
  obtain ⟨-, started⟩ := held inFlight
  exact startsTransaction_of_startedBy started

end Sys2Proof.Machine
end

section
/-! CERTIFICATE. Errors: to which commands each can be a reply (O59), that none stops the machine (O10), and the refusal
with `Busy` (O33). -/

namespace Sys2Proof.Machine

/-! ### The visibility matrix (R359) -/

/-- R359 lets the block reply `a` to the command `i` in the state `s`. -/
def ReplyVisible (s : State) (i : Instr) (a : Answer) : Prop :=
  a ≠ .err .parityError ∧
  (a = .err .invalidFraming ∨ a = .err .invalidEncoding → ∃ c, i = .mdec c) ∧
  (a = .err .timedOut → engineCommand i = true ∧ ∀ ms, i ≠ .settmo ms) ∧
  (a = .err .busy → engineCommand i = true ∧ s.fsm = .awaitingResponse)

section
variable {s : State} {i : Instr}

theorem replyVisible_ok (v : Value) : ReplyVisible s i (.ok v) := by simp [ReplyVisible]

theorem replyVisible_decodeError {e : Err} (c : Capture) (kind : e = .invalidFraming ∨ e = .invalidEncoding) :
    ReplyVisible s (.mdec c) (.err e) := by
  rcases kind with rfl | rfl <;> simp [ReplyVisible]

theorem replyVisible_busy (engine : engineCommand i = true) (inFlight : s.fsm = .awaitingResponse) :
    ReplyVisible s i (.err .busy) := by simp [ReplyVisible, engine, inFlight]

theorem replyVisible_timedOut (starts : startsTransaction i = true) : ReplyVisible s i (.err .timedOut) := by
  simp [ReplyVisible, engineCommand_of_startsTransaction starts, ne_settmo_of_startsTransaction starts]

end

/-- From `s` to `t` the block gives at most one reply, and only one that R359 lets be seen. -/
def RepliesVisibly (s t : State) : Prop :=
  t.replies = s.replies ∨ ∃ i a, t.replies = ⟨i, a⟩ :: s.replies ∧ ReplyVisible s i a

section
variable {s t u : State}

theorem RepliesVisibly.of_push {i : Instr} {a : Answer} (replies : t.replies = ⟨i, a⟩ :: s.replies)
    (visible : ReplyVisible s i a) : RepliesVisibly s t := .inr ⟨i, a, replies, visible⟩

theorem RepliesVisibly.of_sameBlock (same : SameBlock s u) (h : RepliesVisibly u t) : RepliesVisibly s t := by
  simpa only [RepliesVisibly, ReplyVisible, same.fsm, same.replies] using h

theorem TransactionHeld.of_sameBlock (held : TransactionHeld s) (same : SameBlock s u) : TransactionHeld u :=
  held.of_eq same.fsm same.sent same.xreq same.xcmd

/-- The engine replies `Ok` or `TimedOut`, and to the command of the transaction in flight (R238, R239). -/
theorem repliesVisibly_iterate (a : Option Capture) (held : TransactionHeld s) : RepliesVisibly s (iterate a s) := by
  rcases iterate_cases a s with ⟨-, h⟩ | ⟨-, _, f, -, -, h⟩ | ⟨inFlight, -, h⟩ | ⟨-, -, h⟩ <;> rw [h]
  · exact .inl rfl
  · obtain ⟨v, replies⟩ := completeOk_replies f s
    exact .of_push replies (replyVisible_ok v)
  · exact .of_push (by simp) (replyVisible_timedOut (held.startsTransaction_xcmd inFlight))
  · exact .inl (by simp)

theorem Completes.repliesVisibly {i : Instr} (held : TransactionHeld s) (h : Completes i s t) :
    RepliesVisibly s t := by
  cases h with
  | ok _ drawn => exact .of_sameBlock (sameBlock_of_drawn drawn) (.of_push rfl (replyVisible_ok _))
  | @decodeError c _ cmd kind =>
    subst cmd
    exact .of_push rfl (replyVisible_decodeError c kind)
  | busy engine inFlight => exact .of_push rfl (replyVisible_busy engine inFlight)
  | settmo => exact .of_push rfl (replyVisible_ok _)
  | start _ _ _ drawn => exact .of_sameBlock (sameBlock_of_drawn drawn) (.inl (startTransaction_replies ..))
  | poll => exact repliesVisibly_iterate _ held

theorem step_repliesVisibly (held : TransactionHeld s) (h : step s = .next t) : RepliesVisibly s t := by
  have pop := sameBlock_popInput s
  have held' := held.of_sameBlock pop
  rcases step_cases h with ⟨_, _, _, _, -, -, he⟩ | ⟨_, _, -, he⟩ | ⟨-, rfl⟩ | ⟨-, -, rfl⟩ | ⟨-, -, rfl⟩ |
    ⟨_, _, -, rfl⟩ | ⟨_, -, rfl⟩ | ⟨_, -, rfl⟩
  · exact .of_sameBlock pop ((exec_cases he).repliesVisibly held')
  · exact .of_sameBlock pop ((exec_cases he).repliesVisibly held')
  · exact .inl rfl
  · exact .inl rfl
  · exact .of_sameBlock (sameBlock_draw s) (repliesVisibly_iterate _ (held.of_sameBlock (sameBlock_draw s)))
  · exact .of_sameBlock pop (repliesVisibly_iterate _ held')
  · exact .inl rfl
  · exact .inl (sameBlock_hostReadOut _).replies

end

/-- Settles O59: of the moves a step can make, only an instruction and a poll of the engine reply. -/
theorem repliesKeepTheVisibilityMatrix : Obligations.RepliesKeepTheVisibilityMatrix :=
  fun _ _ held h => step_repliesVisibly held h

/-! ### No error stops the machine (R347) -/

/-- A request that can be presented is run, or has an unassigned selector and is dropped (R101). -/
theorem perform_presentPacket_of_presentable {waits : Bool} {bytes : List Byte}
    (presentable : (Input.request waits bytes).presentable = true) (s : State) :
    ∃ t, perform (presentPacket (.request bytes) s) = .next t := by
  cases bytes with
  | nil => exact (Bool.false_ne_true presentable).elim
  | cons op bs =>
    rcases Bool.or_eq_true_iff.1 presentable with unassigned | wellFormed
    · have dropped : decode (.request (op :: bs)) = .error (.unassignedSelector op) :=
        decodeRequest_unassigned (Option.isNone_iff_eq_none.1 unassigned) bs
      exact ⟨s, by simp [presentPacket, dropped, perform]⟩
    · obtain ⟨i, decoded⟩ := (requestDecodesIffWellFormed (op :: bs)).2 wellFormed
      obtain ⟨t, goesOn, -⟩ := exec_goesOnTo i s
      exact ⟨t, (perform_presentPacket s decoded).trans goesOn⟩

theorem step_reset {s : State} {rest : List Input} (h : s.inputs = .reset :: rest) :
    step s = .next s.popInput.resetBlock := by
  simp [step, nextAction, h, perform]

/-- Settles O10, by cases on the next move: only a request can be refused, and one that is presentable is not. -/
theorem safeInputNeverStops : Obligations.SafeInputNeverStops := by
  intro s safe
  cases moves : s.inputs with
  | nil =>
    cases hf : s.fsm with
    | idle => exact ⟨_, step_noInput_idle hf moves⟩
    | awaitingResponse => exact ⟨_, step_noInput_inFlight hf moves⟩
  | cons move rest =>
    have presentable : move.presentable = true := by rwa [State.inputSafe, moves] at safe
    cases move with
    | request waits bytes =>
      obtain ⟨t, presented⟩ := perform_presentPacket_of_presentable presentable { s with inputs := rest }
      cases waits with
      | false => exact ⟨t, (step_request moves).trans presented⟩
      | true =>
        cases hf : s.fsm with
        | idle => exact ⟨t, (step_waitingRequest_idle hf moves).trans presented⟩
        | awaitingResponse => exact ⟨_, step_waitingRequest_inFlight hf moves⟩
    | wire f =>
      have run : step s = exec (decodeWire f) { s with inputs := rest } := step_inputOfPacket (p := .wire f) moves
      exact ⟨_, run.trans (exec_decodeWire _ f)⟩
    | poll a => exact ⟨_, step_poll moves⟩
    | readOut => exact ⟨_, step_readOut moves⟩
    | reset => exact ⟨_, step_reset moves⟩

/-! ### `Busy` (R345) -/

/-- Settles O33: of the ways an instruction can complete, an engine command in flight has only the refusal. -/
theorem engineCommandsAreRefusedWhileBusy : Obligations.EngineCommandsAreRefusedWhileBusy := by
  intro i s engine inFlight
  obtain ⟨t, goesOn, completes⟩ := exec_goesOnTo i s
  rw [goesOn]
  cases completes with
  | busy => rfl
  | ok isPure => exact absurd isPure (not_pureCommand_of_engineCommand engine)
  | decodeError cmd =>
    subst cmd
    exact (Bool.false_ne_true engine).elim
  | settmo _ idle | start _ idle => exact absurd (inFlight.symm.trans idle) (by decide)
  | poll noCommand =>
    obtain ⟨op, selected, -⟩ := engineCommand_iff.1 engine
    exact absurd (noCommand.symm.trans selected) (by simp)

end Sys2Proof.Machine
end

section
/-! CERTIFICATE. The transaction in flight: what the reset event does to it (O51) and the registers that hold through it
(O55). -/

namespace Sys2Proof.Machine

/-- Settles O51: the step is the reset of the block after the event is taken, which touches the registers alone. -/
theorem resetEventAbandonsTheTransaction : Obligations.ResetEventAbandonsTheTransaction := fun s rest event =>
  have taken : s.popInput.resetBlock.inputs = rest := by simp [popInput_of_inputs event]
  ⟨s.popInput.resetBlock, step_reset event, rfl, rfl, rfl, rfl, rfl, rfl, rfl, rfl, rfl, rfl, taken⟩

/-- Settles O55, by the effects of a step: `SETTMO` and a start need `Idle`, an end and the reset leave `Idle` behind, and
what is left at most replies. -/
theorem transactionRegistersHoldInFlight : Obligations.TransactionRegistersHoldInFlight := by
  intro s t h inFlight staysInFlight
  cases step_effect h with
  | quiet same | replied same => exact ⟨same.xreq, same.xt0, same.xtmo, same.xcmd, same.timeout, same.out⟩
  | settmo idle | started idle => exact absurd (inFlight.symm.trans idle) (by decide)
  | succeeded => exact absurd ((completeOk_fsm _ _).symm.trans staysInFlight) (by decide)
  | timedOut | reset => cases staysInFlight

end Sys2Proof.Machine
end
